-- ==== Sys2Proof/Word.lean ====
section
/-! DEFINITION. The word types, narrowing of exact integers, and the names the operand fields of an
encoding stand for (spec/30_encoding.md R75 to R80). -/

namespace Sys2Proof

/-- A u8 (R7, R10). -/
abbrev Byte := BitVec 8

/-- A u16: an address, a register pair, PC or SP (R7, R10). -/
abbrev Word := BitVec 16

/-- `trunc8(x) = x mod 256` of an exact integer, in 0..255 for negative x too (R11). -/
def trunc8 (x : Int) : Byte := BitVec.ofInt 8 x

/-- `trunc16(x) = x mod 65536` of an exact integer (R11). -/
def trunc16 (x : Int) : Word := BitVec.ofInt 16 x

/-- A 2-bit field: x of an opcode byte, and the codes p and cc (R71). -/
inductive Idx4 where
  | i0 | i1 | i2 | i3
  deriving DecidableEq, Repr

/-- A 3-bit field: y and z of an opcode byte, a bit number, an RST vector number (R71). -/
inductive Idx8 where
  | i0 | i1 | i2 | i3 | i4 | i5 | i6 | i7
  deriving DecidableEq, Repr

/-- The seven 8-bit registers with storage of their own (R20: F is a projection of the flags). -/
inductive Reg8 where
  | b | c | d | e | h | l | a
  deriving DecidableEq, Repr

/-- What an r8 code names: a register, or for code 6 the byte at HL (R75). -/
inductive Opnd8 where
  | reg (r : Reg8)
  | indHl
  deriving DecidableEq, Repr

/-- The second operand of an 8-bit ALU instruction (R130). -/
inductive AluSrc where
  | reg (r : Reg8)
  | indHl
  | imm (n : Byte)
  deriving DecidableEq, Repr

/-- The ALU operations (R80). -/
inductive AluOp where
  | add | adc | sub | sbc | and | xor | or | cp
  deriving DecidableEq, Repr

/-- The `rp` code (R76). -/
inductive Pair where
  | bc | de | hl | sp
  deriving DecidableEq, Repr

/-- The `rp2` code of PUSH and POP (R77). -/
inductive StackPair where
  | bc | de | hl | af
  deriving DecidableEq, Repr

/-- The `cc` code (R78). -/
inductive Cond where
  | nz | z | nc | c
  deriving DecidableEq, Repr

/-- The shift and rotate group of the CB map, in the order of y (R90, R280). -/
inductive ShiftOp where
  | rlc | rrc | rl | rr | sla | sra | swap | srl
  deriving DecidableEq, Repr

/-- The rotates of A (R170 to R173). -/
inductive RotA where
  | rlca | rrca | rla | rra
  deriving DecidableEq, Repr

/-- The 11 first bytes with no instruction (R88). -/
inductive UnknownOp where
  | xD3 | xDB | xDD | xE3 | xE4 | xEB | xEC | xED | xF4 | xFC | xFD
  deriving DecidableEq, Repr

end Sys2Proof
end

