-- ==== Sys2Proof/Config.lean ====
section
/-! DEFINITION. The parameters the spec gives the model (spec/00_scope.md R9). No free value stands
here: spec/93_implementation_defined.md, Part 1, says no behaviour of the core is "any value". -/

namespace Sys2Proof

/-- `CB_PREFIX` (R9, R89, R109). -/
inductive CbPrefix where
  | refuse
  | execute
  deriving DecidableEq, Repr

/-- `UNKNOWN_OPCODE_POLICY` (R9, R108). -/
inductive UnknownPolicy where
  | skip
  | stuck
  deriving DecidableEq, Repr

/-- `INCDEC_CARRY` (R9, R157). -/
inductive IncDecCarry where
  | preserve
  | derive
  deriving DecidableEq, Repr

/-- The parameters a machine is built with (R9). They never change while it runs. -/
structure Params where
  cbPrefix      : CbPrefix
  unknownOpcode : UnknownPolicy
  incDecCarry   : IncDecCarry
  deriving DecidableEq, Repr

/-- `RESET_REGS`: the registers, flags and SP at construction (R9, R331). Every record is legal. -/
structure ResetRegs where
  a  : Byte
  b  : Byte
  c  : Byte
  d  : Byte
  e  : Byte
  h  : Byte
  l  : Byte
  fz : Bool
  fn : Bool
  fh : Bool
  fc : Bool
  sp : Word
  deriving DecidableEq, Repr

/-- The defaults of R9. -/
def Params.specDefault : Params :=
  { cbPrefix := .refuse, unknownOpcode := .skip, incDecCarry := .preserve }

/-- The parameters of `State.reset`: the defaults of R9, but `CB_PREFIX = execute`, the value under which
the 256 rows of the CB map have their meaning. DESIGN CHOICE (log 1). -/
def Params.model : Params := { Params.specDefault with cbPrefix := .execute }

/-- The default of `RESET_REGS`, all zero (R331). DESIGN CHOICE of the spec among its legal values (log 2). -/
def ResetRegs.zero : ResetRegs :=
  { a := 0, b := 0, c := 0, d := 0, e := 0, h := 0, l := 0,
    fz := false, fn := false, fh := false, fc := false, sp := 0 }

/-- The values a Game Boy (DMG) leaves in the registers, which R332 offers a reader as one legal record. -/
def ResetRegs.dmg : ResetRegs :=
  { a := 0x01, b := 0x00, c := 0x13, d := 0x00, e := 0xD8, h := 0x01, l := 0x4D,
    fz := true, fn := false, fh := true, fc := true, sp := 0xFFFE }

end Sys2Proof
end

