-- ==== Sys2Proof/Syntax.lean ====
section
/-! DEFINITION. The instructions: one constructor per row of spec/opcode_table.json, the rows with an
immediate first, each group in the table's order.
Immediates: `n` is d8 or a8, `e` is e8, `nn` is d16 or a16 (spec/30_encoding.md R73). -/

namespace Sys2Proof

/-- One constructor per row of the opcode table: R85 for the 256 first bytes, R90 for the CB map. -/
inductive Instr where
  -- rows with an immediate: formats O16 and O8, and the prefix row
  | ldBcD16 (nn : Word)
  | ldBD8 (n : Byte)
  | ldIndA16Sp (nn : Word)
  | ldCD8 (n : Byte)
  | stop (operand : Byte)
  | ldDeD16 (nn : Word)
  | ldDD8 (n : Byte)
  | jrE8 (e : Byte)
  | ldED8 (n : Byte)
  | jrNzE8 (e : Byte)
  | ldHlD16 (nn : Word)
  | ldHD8 (n : Byte)
  | jrZE8 (e : Byte)
  | ldLD8 (n : Byte)
  | jrNcE8 (e : Byte)
  | ldSpD16 (nn : Word)
  | ldIndHlD8 (n : Byte)
  | jrCE8 (e : Byte)
  | ldAD8 (n : Byte)
  | jpNzA16 (nn : Word)
  | jpA16 (nn : Word)
  | callNzA16 (nn : Word)
  | addAD8 (n : Byte)
  | jpZA16 (nn : Word)
  | prefixCb (op2 : Byte)
  | callZA16 (nn : Word)
  | callA16 (nn : Word)
  | adcAD8 (n : Byte)
  | jpNcA16 (nn : Word)
  | callNcA16 (nn : Word)
  | subD8 (n : Byte)
  | jpCA16 (nn : Word)
  | callCA16 (nn : Word)
  | sbcAD8 (n : Byte)
  | ldhIndA8A (n : Byte)
  | andD8 (n : Byte)
  | addSpE8 (e : Byte)
  | ldIndA16A (nn : Word)
  | xorD8 (n : Byte)
  | ldhAIndA8 (n : Byte)
  | orD8 (n : Byte)
  | ldHlSpE8 (e : Byte)
  | ldAIndA16 (nn : Word)
  | cpD8 (n : Byte)
  -- format O, 0x
  | nop
  | ldIndBcA
  | incBc
  | incB
  | decB
  | rlca
  | addHlBc
  | ldAIndBc
  | decBc
  | incC
  | decC
  | rrca
  -- format O, 1x
  | ldIndDeA
  | incDe
  | incD
  | decD
  | rla
  | addHlDe
  | ldAIndDe
  | decDe
  | incE
  | decE
  | rra
  -- format O, 2x
  | ldIndHlIncA
  | incHl
  | incH
  | decH
  | daa
  | addHlHl
  | ldAIndHlInc
  | decHl
  | incL
  | decL
  | cpl
  -- format O, 3x
  | ldIndHlDecA
  | incSp
  | incIndHl
  | decIndHl
  | scf
  | addHlSp
  | ldAIndHlDec
  | decSp
  | incA
  | decA
  | ccf
  -- format O, 4x
  | ldBB
  | ldBC
  | ldBD
  | ldBE
  | ldBH
  | ldBL
  | ldBIndHl
  | ldBA
  | ldCB
  | ldCC
  | ldCD
  | ldCE
  | ldCH
  | ldCL
  | ldCIndHl
  | ldCA
  -- format O, 5x
  | ldDB
  | ldDC
  | ldDD
  | ldDE
  | ldDH
  | ldDL
  | ldDIndHl
  | ldDA
  | ldEB
  | ldEC
  | ldED
  | ldEE
  | ldEH
  | ldEL
  | ldEIndHl
  | ldEA
  -- format O, 6x
  | ldHB
  | ldHC
  | ldHD
  | ldHE
  | ldHH
  | ldHL
  | ldHIndHl
  | ldHA
  | ldLB
  | ldLC
  | ldLD
  | ldLE
  | ldLH
  | ldLL
  | ldLIndHl
  | ldLA
  -- format O, 7x
  | ldIndHlB
  | ldIndHlC
  | ldIndHlD
  | ldIndHlE
  | ldIndHlH
  | ldIndHlL
  | halt
  | ldIndHlA
  | ldAB
  | ldAC
  | ldAD
  | ldAE
  | ldAH
  | ldAL
  | ldAIndHl
  | ldAA
  -- format O, 8x
  | addAB
  | addAC
  | addAD
  | addAE
  | addAH
  | addAL
  | addAIndHl
  | addAA
  | adcAB
  | adcAC
  | adcAD
  | adcAE
  | adcAH
  | adcAL
  | adcAIndHl
  | adcAA
  -- format O, 9x
  | subB
  | subC
  | subD
  | subE
  | subH
  | subL
  | subIndHl
  | subA
  | sbcAB
  | sbcAC
  | sbcAD
  | sbcAE
  | sbcAH
  | sbcAL
  | sbcAIndHl
  | sbcAA
  -- format O, Ax
  | andB
  | andC
  | andD
  | andE
  | andH
  | andL
  | andIndHl
  | andA
  | xorB
  | xorC
  | xorD
  | xorE
  | xorH
  | xorL
  | xorIndHl
  | xorA
  -- format O, Bx
  | orB
  | orC
  | orD
  | orE
  | orH
  | orL
  | orIndHl
  | orA
  | cpB
  | cpC
  | cpD
  | cpE
  | cpH
  | cpL
  | cpIndHl
  | cpA
  -- format O, Cx
  | retNz
  | popBc
  | pushBc
  | rst00
  | retZ
  | ret
  | rst08
  -- format O, Dx
  | retNc
  | popDe
  | unknownD3
  | pushDe
  | rst10
  | retC
  | reti
  | unknownDB
  | unknownDD
  | rst18
  -- format O, Ex
  | popHl
  | ldIndCA
  | unknownE3
  | unknownE4
  | pushHl
  | rst20
  | jpHl
  | unknownEB
  | unknownEC
  | unknownED
  | rst28
  -- format O, Fx
  | popAf
  | ldAIndC
  | di
  | unknownF4
  | pushAf
  | rst30
  | ldSpHl
  | ei
  | unknownFC
  | unknownFD
  | rst38
  -- format CB, second byte 0x
  | rlcB
  | rlcC
  | rlcD
  | rlcE
  | rlcH
  | rlcL
  | rlcIndHl
  | rlcA
  | rrcB
  | rrcC
  | rrcD
  | rrcE
  | rrcH
  | rrcL
  | rrcIndHl
  | rrcA
  -- format CB, second byte 1x
  | rlB
  | rlC
  | rlD
  | rlE
  | rlH
  | rlL
  | rlIndHl
  | rlA
  | rrB
  | rrC
  | rrD
  | rrE
  | rrH
  | rrL
  | rrIndHl
  | rrA
  -- format CB, second byte 2x
  | slaB
  | slaC
  | slaD
  | slaE
  | slaH
  | slaL
  | slaIndHl
  | slaA
  | sraB
  | sraC
  | sraD
  | sraE
  | sraH
  | sraL
  | sraIndHl
  | sraA
  -- format CB, second byte 3x
  | swapB
  | swapC
  | swapD
  | swapE
  | swapH
  | swapL
  | swapIndHl
  | swapA
  | srlB
  | srlC
  | srlD
  | srlE
  | srlH
  | srlL
  | srlIndHl
  | srlA
  -- format CB, second byte 4x
  | bit0B
  | bit0C
  | bit0D
  | bit0E
  | bit0H
  | bit0L
  | bit0IndHl
  | bit0A
  | bit1B
  | bit1C
  | bit1D
  | bit1E
  | bit1H
  | bit1L
  | bit1IndHl
  | bit1A
  -- format CB, second byte 5x
  | bit2B
  | bit2C
  | bit2D
  | bit2E
  | bit2H
  | bit2L
  | bit2IndHl
  | bit2A
  | bit3B
  | bit3C
  | bit3D
  | bit3E
  | bit3H
  | bit3L
  | bit3IndHl
  | bit3A
  -- format CB, second byte 6x
  | bit4B
  | bit4C
  | bit4D
  | bit4E
  | bit4H
  | bit4L
  | bit4IndHl
  | bit4A
  | bit5B
  | bit5C
  | bit5D
  | bit5E
  | bit5H
  | bit5L
  | bit5IndHl
  | bit5A
  -- format CB, second byte 7x
  | bit6B
  | bit6C
  | bit6D
  | bit6E
  | bit6H
  | bit6L
  | bit6IndHl
  | bit6A
  | bit7B
  | bit7C
  | bit7D
  | bit7E
  | bit7H
  | bit7L
  | bit7IndHl
  | bit7A
  -- format CB, second byte 8x
  | res0B
  | res0C
  | res0D
  | res0E
  | res0H
  | res0L
  | res0IndHl
  | res0A
  | res1B
  | res1C
  | res1D
  | res1E
  | res1H
  | res1L
  | res1IndHl
  | res1A
  -- format CB, second byte 9x
  | res2B
  | res2C
  | res2D
  | res2E
  | res2H
  | res2L
  | res2IndHl
  | res2A
  | res3B
  | res3C
  | res3D
  | res3E
  | res3H
  | res3L
  | res3IndHl
  | res3A
  -- format CB, second byte Ax
  | res4B
  | res4C
  | res4D
  | res4E
  | res4H
  | res4L
  | res4IndHl
  | res4A
  | res5B
  | res5C
  | res5D
  | res5E
  | res5H
  | res5L
  | res5IndHl
  | res5A
  -- format CB, second byte Bx
  | res6B
  | res6C
  | res6D
  | res6E
  | res6H
  | res6L
  | res6IndHl
  | res6A
  | res7B
  | res7C
  | res7D
  | res7E
  | res7H
  | res7L
  | res7IndHl
  | res7A
  -- format CB, second byte Cx
  | set0B
  | set0C
  | set0D
  | set0E
  | set0H
  | set0L
  | set0IndHl
  | set0A
  | set1B
  | set1C
  | set1D
  | set1E
  | set1H
  | set1L
  | set1IndHl
  | set1A
  -- format CB, second byte Dx
  | set2B
  | set2C
  | set2D
  | set2E
  | set2H
  | set2L
  | set2IndHl
  | set2A
  | set3B
  | set3C
  | set3D
  | set3E
  | set3H
  | set3L
  | set3IndHl
  | set3A
  -- format CB, second byte Ex
  | set4B
  | set4C
  | set4D
  | set4E
  | set4H
  | set4L
  | set4IndHl
  | set4A
  | set5B
  | set5C
  | set5D
  | set5E
  | set5H
  | set5L
  | set5IndHl
  | set5A
  -- format CB, second byte Fx
  | set6B
  | set6C
  | set6D
  | set6E
  | set6H
  | set6L
  | set6IndHl
  | set6A
  | set7B
  | set7C
  | set7D
  | set7E
  | set7H
  | set7L
  | set7IndHl
  | set7A
  deriving DecidableEq, Repr

end Sys2Proof
end

