-- ==== Sys2Proof/Decode.lean ====
section
/-! DEFINITION. Decoding by the fields of spec/30_encoding.md (R70 to R93, R280), total on any bytes, and
after it the encoder, written from the opcode maps R85 and R90. -/

namespace Sys2Proof

/-! ### Bytes and fields -/

/-- `cat(hi, lo) = hi * 256 + lo` (R11). -/
def cat (hi lo : Byte) : Word := hi ++ lo

/-- `v[15:8]` (R10). -/
def hiByte (v : Word) : Byte := v.extractLsb' 8 8

/-- `v[7:0]` (R10). -/
def loByte (v : Word) : Byte := v.extractLsb' 0 8

def Idx4.ofBits (v : BitVec 2) : Idx4 :=
  match v.toNat with
  | 0 => .i0 | 1 => .i1 | 2 => .i2 | _ => .i3

def Idx8.ofBits (v : BitVec 3) : Idx8 :=
  match v.toNat with
  | 0 => .i0 | 1 => .i1 | 2 => .i2 | 3 => .i3
  | 4 => .i4 | 5 => .i5 | 6 => .i6 | _ => .i7

def Idx8.val : Idx8 → Nat
  | .i0 => 0 | .i1 => 1 | .i2 => 2 | .i3 => 3
  | .i4 => 4 | .i5 => 5 | .i6 => 6 | .i7 => 7

/-- `x = op[7:6]` (R71, R280). -/
def xField (op : Byte) : Idx4 := Idx4.ofBits (op.extractLsb' 6 2)

/-- `y = op[5:3]` (R71, R280). -/
def yField (op : Byte) : Idx8 := Idx8.ofBits (op.extractLsb' 3 3)

/-- `z = op[2:0]` (R71, R280). -/
def zField (op : Byte) : Idx8 := Idx8.ofBits (op.extractLsb' 0 3)

/-! ### The codes of the operand fields -/

/-- The 8-bit operand code (R75). -/
def opnd8 : Idx8 → Opnd8
  | .i0 => .reg .b | .i1 => .reg .c | .i2 => .reg .d | .i3 => .reg .e
  | .i4 => .reg .h | .i5 => .reg .l | .i6 => .indHl  | .i7 => .reg .a

/-- The code of a register (R75). -/
def Reg8.code : Reg8 → Byte
  | .b => 0 | .c => 1 | .d => 2 | .e => 3 | .h => 4 | .l => 5 | .a => 7

/-- The code of an 8-bit operand (R75). -/
def Opnd8.code : Opnd8 → Byte
  | .reg r => r.code
  | .indHl => 6

/-- The ALU operation field (R80). -/
def aluOp : Idx8 → AluOp
  | .i0 => .add | .i1 => .adc | .i2 => .sub | .i3 => .sbc
  | .i4 => .and | .i5 => .xor | .i6 => .or  | .i7 => .cp

/-- The code of an ALU operation (R80). -/
def AluOp.code : AluOp → Byte
  | .add => 0 | .adc => 1 | .sub => 2 | .sbc => 3 | .and => 4 | .xor => 5 | .or => 6 | .cp => 7

/-- The `rp` code of a pair (R76). -/
def Pair.code : Pair → Byte
  | .bc => 0 | .de => 1 | .hl => 2 | .sp => 3

/-- The `rp2` code of a pair (R77). -/
def StackPair.code : StackPair → Byte
  | .bc => 0 | .de => 1 | .hl => 2 | .af => 3

/-- The `cc` code of a condition (R78). -/
def Cond.code : Cond → Byte
  | .nz => 0 | .z => 1 | .nc => 2 | .c => 3

/-- The y field of the shift and rotate group of the CB map (R90, R280). -/
def shiftOp : Idx8 → ShiftOp
  | .i0 => .rlc | .i1 => .rrc | .i2 => .rl   | .i3 => .rr
  | .i4 => .sla | .i5 => .sra | .i6 => .swap | .i7 => .srl

/-- The code of a shift or rotate (R90, R280). -/
def ShiftOp.code : ShiftOp → Byte
  | .rlc => 0 | .rrc => 1 | .rl => 2 | .rr => 3 | .sla => 4 | .sra => 5 | .swap => 6 | .srl => 7

/-- A 3-bit field as a byte. -/
def Idx8.code (i : Idx8) : Byte := BitVec.ofNat 8 i.val

/-- The opcode byte of an unknown opcode (R88). -/
def UnknownOp.byte : UnknownOp → Byte
  | .xD3 => 0xD3
  | .xDB => 0xDB
  | .xDD => 0xDD
  | .xE3 => 0xE3
  | .xE4 => 0xE4
  | .xEB => 0xEB
  | .xEC => 0xEC
  | .xED => 0xED
  | .xF4 => 0xF4
  | .xFC => 0xFC
  | .xFD => 0xFD

/-- The 11 opcodes with no instruction, as bytes (R88). -/
def unknownBytes : List Byte :=
  [0xD3, 0xDB, 0xDD, 0xE3, 0xE4, 0xEB, 0xEC, 0xED, 0xF4, 0xFC, 0xFD]

/-! ### The rows of a field-regular group (R72, R90)

The row that a group's operation and operand fields select. -/

namespace Instr

/-- `01dddsss`: LD r,r' (R240). -/
def ldRR (dst : Reg8) (src : Reg8) : Instr :=
  match dst, src with
  | .b, .b => .ldBB
  | .b, .c => .ldBC
  | .b, .d => .ldBD
  | .b, .e => .ldBE
  | .b, .h => .ldBH
  | .b, .l => .ldBL
  | .b, .a => .ldBA
  | .c, .b => .ldCB
  | .c, .c => .ldCC
  | .c, .d => .ldCD
  | .c, .e => .ldCE
  | .c, .h => .ldCH
  | .c, .l => .ldCL
  | .c, .a => .ldCA
  | .d, .b => .ldDB
  | .d, .c => .ldDC
  | .d, .d => .ldDD
  | .d, .e => .ldDE
  | .d, .h => .ldDH
  | .d, .l => .ldDL
  | .d, .a => .ldDA
  | .e, .b => .ldEB
  | .e, .c => .ldEC
  | .e, .d => .ldED
  | .e, .e => .ldEE
  | .e, .h => .ldEH
  | .e, .l => .ldEL
  | .e, .a => .ldEA
  | .h, .b => .ldHB
  | .h, .c => .ldHC
  | .h, .d => .ldHD
  | .h, .e => .ldHE
  | .h, .h => .ldHH
  | .h, .l => .ldHL
  | .h, .a => .ldHA
  | .l, .b => .ldLB
  | .l, .c => .ldLC
  | .l, .d => .ldLD
  | .l, .e => .ldLE
  | .l, .h => .ldLH
  | .l, .l => .ldLL
  | .l, .a => .ldLA
  | .a, .b => .ldAB
  | .a, .c => .ldAC
  | .a, .d => .ldAD
  | .a, .e => .ldAE
  | .a, .h => .ldAH
  | .a, .l => .ldAL
  | .a, .a => .ldAA

/-- `01ddd110`: LD r,(HL) (R241). -/
def ldRHl (dst : Reg8) : Instr :=
  match dst with
  | .b => .ldBIndHl
  | .c => .ldCIndHl
  | .d => .ldDIndHl
  | .e => .ldEIndHl
  | .h => .ldHIndHl
  | .l => .ldLIndHl
  | .a => .ldAIndHl

/-- `01110sss`: LD (HL),r (R242). -/
def ldHlR (src : Reg8) : Instr :=
  match src with
  | .b => .ldIndHlB
  | .c => .ldIndHlC
  | .d => .ldIndHlD
  | .e => .ldIndHlE
  | .h => .ldIndHlH
  | .l => .ldIndHlL
  | .a => .ldIndHlA

/-- `00ddd110`: LD r,d8 (R243). -/
def ldRD8 (dst : Reg8) (n : Byte) : Instr :=
  match dst with
  | .b => .ldBD8 n
  | .c => .ldCD8 n
  | .d => .ldDD8 n
  | .e => .ldED8 n
  | .h => .ldHD8 n
  | .l => .ldLD8 n
  | .a => .ldAD8 n

/-- `10aaasss` and `11aaa110`: the 8-bit ALU (R133 to R156). -/
def alu (op : AluOp) (src : AluSrc) : Instr :=
  match op, src with
  | .add, .reg .b => .addAB
  | .add, .reg .c => .addAC
  | .add, .reg .d => .addAD
  | .add, .reg .e => .addAE
  | .add, .reg .h => .addAH
  | .add, .reg .l => .addAL
  | .add, .reg .a => .addAA
  | .add, .indHl => .addAIndHl
  | .add, .imm n => .addAD8 n
  | .adc, .reg .b => .adcAB
  | .adc, .reg .c => .adcAC
  | .adc, .reg .d => .adcAD
  | .adc, .reg .e => .adcAE
  | .adc, .reg .h => .adcAH
  | .adc, .reg .l => .adcAL
  | .adc, .reg .a => .adcAA
  | .adc, .indHl => .adcAIndHl
  | .adc, .imm n => .adcAD8 n
  | .sub, .reg .b => .subB
  | .sub, .reg .c => .subC
  | .sub, .reg .d => .subD
  | .sub, .reg .e => .subE
  | .sub, .reg .h => .subH
  | .sub, .reg .l => .subL
  | .sub, .reg .a => .subA
  | .sub, .indHl => .subIndHl
  | .sub, .imm n => .subD8 n
  | .sbc, .reg .b => .sbcAB
  | .sbc, .reg .c => .sbcAC
  | .sbc, .reg .d => .sbcAD
  | .sbc, .reg .e => .sbcAE
  | .sbc, .reg .h => .sbcAH
  | .sbc, .reg .l => .sbcAL
  | .sbc, .reg .a => .sbcAA
  | .sbc, .indHl => .sbcAIndHl
  | .sbc, .imm n => .sbcAD8 n
  | .and, .reg .b => .andB
  | .and, .reg .c => .andC
  | .and, .reg .d => .andD
  | .and, .reg .e => .andE
  | .and, .reg .h => .andH
  | .and, .reg .l => .andL
  | .and, .reg .a => .andA
  | .and, .indHl => .andIndHl
  | .and, .imm n => .andD8 n
  | .xor, .reg .b => .xorB
  | .xor, .reg .c => .xorC
  | .xor, .reg .d => .xorD
  | .xor, .reg .e => .xorE
  | .xor, .reg .h => .xorH
  | .xor, .reg .l => .xorL
  | .xor, .reg .a => .xorA
  | .xor, .indHl => .xorIndHl
  | .xor, .imm n => .xorD8 n
  | .or, .reg .b => .orB
  | .or, .reg .c => .orC
  | .or, .reg .d => .orD
  | .or, .reg .e => .orE
  | .or, .reg .h => .orH
  | .or, .reg .l => .orL
  | .or, .reg .a => .orA
  | .or, .indHl => .orIndHl
  | .or, .imm n => .orD8 n
  | .cp, .reg .b => .cpB
  | .cp, .reg .c => .cpC
  | .cp, .reg .d => .cpD
  | .cp, .reg .e => .cpE
  | .cp, .reg .h => .cpH
  | .cp, .reg .l => .cpL
  | .cp, .reg .a => .cpA
  | .cp, .indHl => .cpIndHl
  | .cp, .imm n => .cpD8 n

/-- `00rrr100`: INC r and INC (HL) (R158, R159). -/
def inc8 (o : Opnd8) : Instr :=
  match o with
  | .reg .b => .incB
  | .reg .c => .incC
  | .reg .d => .incD
  | .reg .e => .incE
  | .reg .h => .incH
  | .reg .l => .incL
  | .reg .a => .incA
  | .indHl => .incIndHl

/-- `00rrr101`: DEC r and DEC (HL) (R160, R161). -/
def dec8 (o : Opnd8) : Instr :=
  match o with
  | .reg .b => .decB
  | .reg .c => .decC
  | .reg .d => .decD
  | .reg .e => .decE
  | .reg .h => .decH
  | .reg .l => .decL
  | .reg .a => .decA
  | .indHl => .decIndHl

/-- `00pp0001`: LD rp,d16 (R245). -/
def ldPairD16 (p : Pair) (nn : Word) : Instr :=
  match p with
  | .bc => .ldBcD16 nn
  | .de => .ldDeD16 nn
  | .hl => .ldHlD16 nn
  | .sp => .ldSpD16 nn

/-- `00pp0011`: INC rp (R190). -/
def incPair (p : Pair) : Instr :=
  match p with
  | .bc => .incBc
  | .de => .incDe
  | .hl => .incHl
  | .sp => .incSp

/-- `00pp1011`: DEC rp (R191). -/
def decPair (p : Pair) : Instr :=
  match p with
  | .bc => .decBc
  | .de => .decDe
  | .hl => .decHl
  | .sp => .decSp

/-- `00pp1001`: ADD HL,rp (R192). -/
def addHlPair (p : Pair) : Instr :=
  match p with
  | .bc => .addHlBc
  | .de => .addHlDe
  | .hl => .addHlHl
  | .sp => .addHlSp

/-- `000yy111`: the rotates of A (R170 to R173). -/
def rotA (op : RotA) : Instr :=
  match op with
  | .rlca => .rlca
  | .rrca => .rrca
  | .rla => .rla
  | .rra => .rra

/-- `001cc000`: JR cc,e8 (R202). -/
def jrCc (cc : Cond) (e : Byte) : Instr :=
  match cc with
  | .nz => .jrNzE8 e
  | .z => .jrZE8 e
  | .nc => .jrNcE8 e
  | .c => .jrCE8 e

/-- `110cc010`: JP cc,a16 (R204). -/
def jpCc (cc : Cond) (nn : Word) : Instr :=
  match cc with
  | .nz => .jpNzA16 nn
  | .z => .jpZA16 nn
  | .nc => .jpNcA16 nn
  | .c => .jpCA16 nn

/-- `110cc100`: CALL cc,a16 (R207). -/
def callCc (cc : Cond) (nn : Word) : Instr :=
  match cc with
  | .nz => .callNzA16 nn
  | .z => .callZA16 nn
  | .nc => .callNcA16 nn
  | .c => .callCA16 nn

/-- `110cc000`: RET cc (R209). -/
def retCc (cc : Cond) : Instr :=
  match cc with
  | .nz => .retNz
  | .z => .retZ
  | .nc => .retNc
  | .c => .retC

/-- `11ttt111`: RST t*8 (R210). -/
def rst (t : Idx8) : Instr :=
  match t with
  | .i0 => .rst00
  | .i1 => .rst08
  | .i2 => .rst10
  | .i3 => .rst18
  | .i4 => .rst20
  | .i5 => .rst28
  | .i6 => .rst30
  | .i7 => .rst38

/-- `11pp0101`: PUSH rp2 (R232). -/
def push (p : StackPair) : Instr :=
  match p with
  | .bc => .pushBc
  | .de => .pushDe
  | .hl => .pushHl
  | .af => .pushAf

/-- `11pp0001`: POP rp2 (R233, R234). -/
def pop (p : StackPair) : Instr :=
  match p with
  | .bc => .popBc
  | .de => .popDe
  | .hl => .popHl
  | .af => .popAf

/-- The rows without an instruction (R88, R108). -/
def unknown (u : UnknownOp) : Instr :=
  match u with
  | .xD3 => .unknownD3
  | .xDB => .unknownDB
  | .xDD => .unknownDD
  | .xE3 => .unknownE3
  | .xE4 => .unknownE4
  | .xEB => .unknownEB
  | .xEC => .unknownEC
  | .xED => .unknownED
  | .xF4 => .unknownF4
  | .xFC => .unknownFC
  | .xFD => .unknownFD

/-- CB `00yyyzzz`: RLC to SRL (R281 to R288). -/
def shift (op : ShiftOp) (o : Opnd8) : Instr :=
  match op, o with
  | .rlc, .reg .b => .rlcB
  | .rlc, .reg .c => .rlcC
  | .rlc, .reg .d => .rlcD
  | .rlc, .reg .e => .rlcE
  | .rlc, .reg .h => .rlcH
  | .rlc, .reg .l => .rlcL
  | .rlc, .reg .a => .rlcA
  | .rlc, .indHl => .rlcIndHl
  | .rrc, .reg .b => .rrcB
  | .rrc, .reg .c => .rrcC
  | .rrc, .reg .d => .rrcD
  | .rrc, .reg .e => .rrcE
  | .rrc, .reg .h => .rrcH
  | .rrc, .reg .l => .rrcL
  | .rrc, .reg .a => .rrcA
  | .rrc, .indHl => .rrcIndHl
  | .rl, .reg .b => .rlB
  | .rl, .reg .c => .rlC
  | .rl, .reg .d => .rlD
  | .rl, .reg .e => .rlE
  | .rl, .reg .h => .rlH
  | .rl, .reg .l => .rlL
  | .rl, .reg .a => .rlA
  | .rl, .indHl => .rlIndHl
  | .rr, .reg .b => .rrB
  | .rr, .reg .c => .rrC
  | .rr, .reg .d => .rrD
  | .rr, .reg .e => .rrE
  | .rr, .reg .h => .rrH
  | .rr, .reg .l => .rrL
  | .rr, .reg .a => .rrA
  | .rr, .indHl => .rrIndHl
  | .sla, .reg .b => .slaB
  | .sla, .reg .c => .slaC
  | .sla, .reg .d => .slaD
  | .sla, .reg .e => .slaE
  | .sla, .reg .h => .slaH
  | .sla, .reg .l => .slaL
  | .sla, .reg .a => .slaA
  | .sla, .indHl => .slaIndHl
  | .sra, .reg .b => .sraB
  | .sra, .reg .c => .sraC
  | .sra, .reg .d => .sraD
  | .sra, .reg .e => .sraE
  | .sra, .reg .h => .sraH
  | .sra, .reg .l => .sraL
  | .sra, .reg .a => .sraA
  | .sra, .indHl => .sraIndHl
  | .swap, .reg .b => .swapB
  | .swap, .reg .c => .swapC
  | .swap, .reg .d => .swapD
  | .swap, .reg .e => .swapE
  | .swap, .reg .h => .swapH
  | .swap, .reg .l => .swapL
  | .swap, .reg .a => .swapA
  | .swap, .indHl => .swapIndHl
  | .srl, .reg .b => .srlB
  | .srl, .reg .c => .srlC
  | .srl, .reg .d => .srlD
  | .srl, .reg .e => .srlE
  | .srl, .reg .h => .srlH
  | .srl, .reg .l => .srlL
  | .srl, .reg .a => .srlA
  | .srl, .indHl => .srlIndHl

/-- CB `01bbbzzz`: BIT b,r (R289). -/
def bit (b : Idx8) (o : Opnd8) : Instr :=
  match b, o with
  | .i0, .reg .b => .bit0B
  | .i0, .reg .c => .bit0C
  | .i0, .reg .d => .bit0D
  | .i0, .reg .e => .bit0E
  | .i0, .reg .h => .bit0H
  | .i0, .reg .l => .bit0L
  | .i0, .reg .a => .bit0A
  | .i0, .indHl => .bit0IndHl
  | .i1, .reg .b => .bit1B
  | .i1, .reg .c => .bit1C
  | .i1, .reg .d => .bit1D
  | .i1, .reg .e => .bit1E
  | .i1, .reg .h => .bit1H
  | .i1, .reg .l => .bit1L
  | .i1, .reg .a => .bit1A
  | .i1, .indHl => .bit1IndHl
  | .i2, .reg .b => .bit2B
  | .i2, .reg .c => .bit2C
  | .i2, .reg .d => .bit2D
  | .i2, .reg .e => .bit2E
  | .i2, .reg .h => .bit2H
  | .i2, .reg .l => .bit2L
  | .i2, .reg .a => .bit2A
  | .i2, .indHl => .bit2IndHl
  | .i3, .reg .b => .bit3B
  | .i3, .reg .c => .bit3C
  | .i3, .reg .d => .bit3D
  | .i3, .reg .e => .bit3E
  | .i3, .reg .h => .bit3H
  | .i3, .reg .l => .bit3L
  | .i3, .reg .a => .bit3A
  | .i3, .indHl => .bit3IndHl
  | .i4, .reg .b => .bit4B
  | .i4, .reg .c => .bit4C
  | .i4, .reg .d => .bit4D
  | .i4, .reg .e => .bit4E
  | .i4, .reg .h => .bit4H
  | .i4, .reg .l => .bit4L
  | .i4, .reg .a => .bit4A
  | .i4, .indHl => .bit4IndHl
  | .i5, .reg .b => .bit5B
  | .i5, .reg .c => .bit5C
  | .i5, .reg .d => .bit5D
  | .i5, .reg .e => .bit5E
  | .i5, .reg .h => .bit5H
  | .i5, .reg .l => .bit5L
  | .i5, .reg .a => .bit5A
  | .i5, .indHl => .bit5IndHl
  | .i6, .reg .b => .bit6B
  | .i6, .reg .c => .bit6C
  | .i6, .reg .d => .bit6D
  | .i6, .reg .e => .bit6E
  | .i6, .reg .h => .bit6H
  | .i6, .reg .l => .bit6L
  | .i6, .reg .a => .bit6A
  | .i6, .indHl => .bit6IndHl
  | .i7, .reg .b => .bit7B
  | .i7, .reg .c => .bit7C
  | .i7, .reg .d => .bit7D
  | .i7, .reg .e => .bit7E
  | .i7, .reg .h => .bit7H
  | .i7, .reg .l => .bit7L
  | .i7, .reg .a => .bit7A
  | .i7, .indHl => .bit7IndHl

/-- CB `10bbbzzz`: RES b,r (R290). -/
def res (b : Idx8) (o : Opnd8) : Instr :=
  match b, o with
  | .i0, .reg .b => .res0B
  | .i0, .reg .c => .res0C
  | .i0, .reg .d => .res0D
  | .i0, .reg .e => .res0E
  | .i0, .reg .h => .res0H
  | .i0, .reg .l => .res0L
  | .i0, .reg .a => .res0A
  | .i0, .indHl => .res0IndHl
  | .i1, .reg .b => .res1B
  | .i1, .reg .c => .res1C
  | .i1, .reg .d => .res1D
  | .i1, .reg .e => .res1E
  | .i1, .reg .h => .res1H
  | .i1, .reg .l => .res1L
  | .i1, .reg .a => .res1A
  | .i1, .indHl => .res1IndHl
  | .i2, .reg .b => .res2B
  | .i2, .reg .c => .res2C
  | .i2, .reg .d => .res2D
  | .i2, .reg .e => .res2E
  | .i2, .reg .h => .res2H
  | .i2, .reg .l => .res2L
  | .i2, .reg .a => .res2A
  | .i2, .indHl => .res2IndHl
  | .i3, .reg .b => .res3B
  | .i3, .reg .c => .res3C
  | .i3, .reg .d => .res3D
  | .i3, .reg .e => .res3E
  | .i3, .reg .h => .res3H
  | .i3, .reg .l => .res3L
  | .i3, .reg .a => .res3A
  | .i3, .indHl => .res3IndHl
  | .i4, .reg .b => .res4B
  | .i4, .reg .c => .res4C
  | .i4, .reg .d => .res4D
  | .i4, .reg .e => .res4E
  | .i4, .reg .h => .res4H
  | .i4, .reg .l => .res4L
  | .i4, .reg .a => .res4A
  | .i4, .indHl => .res4IndHl
  | .i5, .reg .b => .res5B
  | .i5, .reg .c => .res5C
  | .i5, .reg .d => .res5D
  | .i5, .reg .e => .res5E
  | .i5, .reg .h => .res5H
  | .i5, .reg .l => .res5L
  | .i5, .reg .a => .res5A
  | .i5, .indHl => .res5IndHl
  | .i6, .reg .b => .res6B
  | .i6, .reg .c => .res6C
  | .i6, .reg .d => .res6D
  | .i6, .reg .e => .res6E
  | .i6, .reg .h => .res6H
  | .i6, .reg .l => .res6L
  | .i6, .reg .a => .res6A
  | .i6, .indHl => .res6IndHl
  | .i7, .reg .b => .res7B
  | .i7, .reg .c => .res7C
  | .i7, .reg .d => .res7D
  | .i7, .reg .e => .res7E
  | .i7, .reg .h => .res7H
  | .i7, .reg .l => .res7L
  | .i7, .reg .a => .res7A
  | .i7, .indHl => .res7IndHl

/-- CB `11bbbzzz`: SET b,r (R291). -/
def set (b : Idx8) (o : Opnd8) : Instr :=
  match b, o with
  | .i0, .reg .b => .set0B
  | .i0, .reg .c => .set0C
  | .i0, .reg .d => .set0D
  | .i0, .reg .e => .set0E
  | .i0, .reg .h => .set0H
  | .i0, .reg .l => .set0L
  | .i0, .reg .a => .set0A
  | .i0, .indHl => .set0IndHl
  | .i1, .reg .b => .set1B
  | .i1, .reg .c => .set1C
  | .i1, .reg .d => .set1D
  | .i1, .reg .e => .set1E
  | .i1, .reg .h => .set1H
  | .i1, .reg .l => .set1L
  | .i1, .reg .a => .set1A
  | .i1, .indHl => .set1IndHl
  | .i2, .reg .b => .set2B
  | .i2, .reg .c => .set2C
  | .i2, .reg .d => .set2D
  | .i2, .reg .e => .set2E
  | .i2, .reg .h => .set2H
  | .i2, .reg .l => .set2L
  | .i2, .reg .a => .set2A
  | .i2, .indHl => .set2IndHl
  | .i3, .reg .b => .set3B
  | .i3, .reg .c => .set3C
  | .i3, .reg .d => .set3D
  | .i3, .reg .e => .set3E
  | .i3, .reg .h => .set3H
  | .i3, .reg .l => .set3L
  | .i3, .reg .a => .set3A
  | .i3, .indHl => .set3IndHl
  | .i4, .reg .b => .set4B
  | .i4, .reg .c => .set4C
  | .i4, .reg .d => .set4D
  | .i4, .reg .e => .set4E
  | .i4, .reg .h => .set4H
  | .i4, .reg .l => .set4L
  | .i4, .reg .a => .set4A
  | .i4, .indHl => .set4IndHl
  | .i5, .reg .b => .set5B
  | .i5, .reg .c => .set5C
  | .i5, .reg .d => .set5D
  | .i5, .reg .e => .set5E
  | .i5, .reg .h => .set5H
  | .i5, .reg .l => .set5L
  | .i5, .reg .a => .set5A
  | .i5, .indHl => .set5IndHl
  | .i6, .reg .b => .set6B
  | .i6, .reg .c => .set6C
  | .i6, .reg .d => .set6D
  | .i6, .reg .e => .set6E
  | .i6, .reg .h => .set6H
  | .i6, .reg .l => .set6L
  | .i6, .reg .a => .set6A
  | .i6, .indHl => .set6IndHl
  | .i7, .reg .b => .set7B
  | .i7, .reg .c => .set7C
  | .i7, .reg .d => .set7D
  | .i7, .reg .e => .set7E
  | .i7, .reg .h => .set7H
  | .i7, .reg .l => .set7L
  | .i7, .reg .a => .set7A
  | .i7, .indHl => .set7IndHl

end Instr

/-! ### The decoder -/

/-- The first bytes with two immediate bytes: the 17 opcodes of R86. -/
def twoImmediates : List Byte :=
  [0x01, 0x11, 0x21, 0x31, 0x08, 0xC2, 0xC3, 0xC4, 0xCA, 0xCC, 0xCD, 0xD2, 0xD4, 0xDA, 0xDC, 0xEA, 0xFA]

/-- The first bytes with one immediate byte: the 27 opcodes of R86 (0xCB counts its second byte). -/
def oneImmediate : List Byte :=
  [0x06, 0x0E, 0x10, 0x16, 0x18, 0x1E, 0x20, 0x26, 0x28, 0x2E, 0x30, 0x36, 0x38, 0x3E] ++
  [0xC6, 0xCB, 0xCE, 0xD6, 0xDE, 0xE0, 0xE6, 0xE8, 0xEE, 0xF0, 0xF6, 0xF8, 0xFE]

/-- The slots marked control-transfer: the 30 opcodes of R87. -/
def controlTransfer : List Byte :=
  [0x18, 0x20, 0x28, 0x30, 0x38, 0xC2, 0xC3, 0xCA, 0xD2, 0xDA, 0xE9, 0xC4, 0xCC, 0xCD, 0xD4] ++
  [0xDC, 0xC0, 0xC8, 0xC9, 0xD0, 0xD8, 0xD9, 0xC7, 0xCF, 0xD7, 0xDF, 0xE7, 0xEF, 0xF7, 0xFF]

/-- The immediate length L of a first byte (R86). -/
def immLen (op : Byte) : Nat :=
  if op ∈ twoImmediates then 2 else if op ∈ oneImmediate then 1 else 0

/-- The CB map (R90, R280): every second byte is an instruction. -/
def decodeCb (op2 : Byte) : Instr :=
  match xField op2 with
  | .i0 => .shift (shiftOp (yField op2)) (opnd8 (zField op2))
  | .i1 => .bit (yField op2) (opnd8 (zField op2))
  | .i2 => .res (yField op2) (opnd8 (zField op2))
  | .i3 => .set (yField op2) (opnd8 (zField op2))

/-- First bytes with x = 0 (R72, R85). -/
def decodeX0 (op b1 b2 : Byte) : Instr :=
  match zField op with
  | .i0 =>
    match yField op with
    | .i0 => .nop
    | .i1 => .ldIndA16Sp (cat b2 b1)
    | .i2 => .stop b1
    | .i3 => .jrE8 b1
    | .i4 => .jrCc .nz b1
    | .i5 => .jrCc .z b1
    | .i6 => .jrCc .nc b1
    | .i7 => .jrCc .c b1
  | .i1 =>
    match yField op with
    | .i0 => .ldPairD16 .bc (cat b2 b1)
    | .i1 => .addHlPair .bc
    | .i2 => .ldPairD16 .de (cat b2 b1)
    | .i3 => .addHlPair .de
    | .i4 => .ldPairD16 .hl (cat b2 b1)
    | .i5 => .addHlPair .hl
    | .i6 => .ldPairD16 .sp (cat b2 b1)
    | .i7 => .addHlPair .sp
  | .i2 =>
    match yField op with
    | .i0 => .ldIndBcA
    | .i1 => .ldAIndBc
    | .i2 => .ldIndDeA
    | .i3 => .ldAIndDe
    | .i4 => .ldIndHlIncA
    | .i5 => .ldAIndHlInc
    | .i6 => .ldIndHlDecA
    | .i7 => .ldAIndHlDec
  | .i3 =>
    match yField op with
    | .i0 => .incPair .bc
    | .i1 => .decPair .bc
    | .i2 => .incPair .de
    | .i3 => .decPair .de
    | .i4 => .incPair .hl
    | .i5 => .decPair .hl
    | .i6 => .incPair .sp
    | .i7 => .decPair .sp
  | .i4 => .inc8 (opnd8 (yField op))
  | .i5 => .dec8 (opnd8 (yField op))
  | .i6 =>
    match opnd8 (yField op) with
    | .reg dst => .ldRD8 dst b1
    | .indHl => .ldIndHlD8 b1
  | .i7 =>
    match yField op with
    | .i0 => .rotA .rlca
    | .i1 => .rotA .rrca
    | .i2 => .rotA .rla
    | .i3 => .rotA .rra
    | .i4 => .daa
    | .i5 => .cpl
    | .i6 => .scf
    | .i7 => .ccf

/-- First bytes with x = 1: the loads, and HALT in the slot where both codes are 6 (R72). -/
def decodeX1 (op : Byte) : Instr :=
  match opnd8 (yField op), opnd8 (zField op) with
  | .reg dst, .reg src => .ldRR dst src
  | .reg dst, .indHl => .ldRHl dst
  | .indHl, .reg src => .ldHlR src
  | .indHl, .indHl => .halt

/-- First bytes with x = 2: the ALU on a register or (HL) (R72). -/
def decodeX2 (op : Byte) : Instr :=
  match opnd8 (zField op) with
  | .reg r => .alu (aluOp (yField op)) (.reg r)
  | .indHl => .alu (aluOp (yField op)) .indHl

/-- First bytes with x = 3 (R72, R85). 0xCB gives the row of the first-byte map, `prefixCb`. -/
def decodeX3 (op b1 b2 : Byte) : Instr :=
  match zField op with
  | .i0 =>
    match yField op with
    | .i0 => .retCc .nz
    | .i1 => .retCc .z
    | .i2 => .retCc .nc
    | .i3 => .retCc .c
    | .i4 => .ldhIndA8A b1
    | .i5 => .addSpE8 b1
    | .i6 => .ldhAIndA8 b1
    | .i7 => .ldHlSpE8 b1
  | .i1 =>
    match yField op with
    | .i0 => .pop .bc
    | .i1 => .ret
    | .i2 => .pop .de
    | .i3 => .reti
    | .i4 => .pop .hl
    | .i5 => .jpHl
    | .i6 => .pop .af
    | .i7 => .ldSpHl
  | .i2 =>
    match yField op with
    | .i0 => .jpCc .nz (cat b2 b1)
    | .i1 => .jpCc .z (cat b2 b1)
    | .i2 => .jpCc .nc (cat b2 b1)
    | .i3 => .jpCc .c (cat b2 b1)
    | .i4 => .ldIndCA
    | .i5 => .ldIndA16A (cat b2 b1)
    | .i6 => .ldAIndC
    | .i7 => .ldAIndA16 (cat b2 b1)
  | .i3 =>
    match yField op with
    | .i0 => .jpA16 (cat b2 b1)
    | .i1 => .prefixCb b1
    | .i2 => .unknown .xD3
    | .i3 => .unknown .xDB
    | .i4 => .unknown .xE3
    | .i5 => .unknown .xEB
    | .i6 => .di
    | .i7 => .ei
  | .i4 =>
    match yField op with
    | .i0 => .callCc .nz (cat b2 b1)
    | .i1 => .callCc .z (cat b2 b1)
    | .i2 => .callCc .nc (cat b2 b1)
    | .i3 => .callCc .c (cat b2 b1)
    | .i4 => .unknown .xE4
    | .i5 => .unknown .xEC
    | .i6 => .unknown .xF4
    | .i7 => .unknown .xFC
  | .i5 =>
    match yField op with
    | .i0 => .push .bc
    | .i1 => .callA16 (cat b2 b1)
    | .i2 => .push .de
    | .i3 => .unknown .xDD
    | .i4 => .push .hl
    | .i5 => .unknown .xED
    | .i6 => .push .af
    | .i7 => .unknown .xFD
  | .i6 => .alu (aluOp (yField op)) (.imm b1)
  | .i7 => .rst (yField op)

/-- The first-byte map (R85): one row for every byte. `b1` and `b2` are the bytes after `op`, and a row
looks at them only where R86 gives it that many immediates. -/
def decodeFirst (op b1 b2 : Byte) : Instr :=
  match xField op with
  | .i0 => decodeX0 op b1 b2
  | .i1 => decodeX1 op
  | .i2 => decodeX2 op
  | .i3 => decodeX3 op b1 b2

/-- The row an instruction runs as: under `CB_PREFIX = execute` the first-byte row 0xCB is the two-byte
instruction its second byte selects, under `refuse` it stays `prefixCb`, whose meaning is the refusal (R89,
R93, R109). -/
def resolveCb (cb : CbPrefix) : Instr → Instr
  | .prefixCb op2 =>
    match cb with
    | .refuse => .prefixCb op2
    | .execute => decodeCb op2
  | i => i

/-- The instruction of the bytes `op`, `b1`, `b2` (R93: decoding is total). -/
def decodeAt (cb : CbPrefix) (op b1 b2 : Byte) : Instr := resolveCb cb (decodeFirst op b1 b2)

/-- Why a byte string holds no instruction: every byte selects a row (R93), so only too few bytes do. -/
inductive DecodeError where
  | noBytes
  | truncated
  deriving DecidableEq, Repr

/-- The first instruction of a byte string and the bytes after it (R70, R86). -/
def decode (cb : CbPrefix) : List Byte → Except DecodeError (Instr × List Byte)
  | [] => .error .noBytes
  | op :: rest =>
    match immLen op, rest with
    | 0, rest => .ok (decodeAt cb op 0 0, rest)
    | 1, b1 :: rest => .ok (decodeAt cb op b1 0, rest)
    | 2, b1 :: b2 :: rest => .ok (decodeAt cb op b1 b2, rest)
    | _, _ => .error .truncated

/-! ### The encoder: the maps R85 and R90, cell by cell -/

/-- The bytes of an instruction (R70; immediates low byte first, R74). -/
def encode : Instr → List Byte
  | .nop => [0x00]
  | .ldBcD16 nn => [0x01, loByte nn, hiByte nn]
  | .ldIndBcA => [0x02]
  | .incBc => [0x03]
  | .incB => [0x04]
  | .decB => [0x05]
  | .ldBD8 n => [0x06, n]
  | .rlca => [0x07]
  | .ldIndA16Sp nn => [0x08, loByte nn, hiByte nn]
  | .addHlBc => [0x09]
  | .ldAIndBc => [0x0A]
  | .decBc => [0x0B]
  | .incC => [0x0C]
  | .decC => [0x0D]
  | .ldCD8 n => [0x0E, n]
  | .rrca => [0x0F]
  | .stop operand => [0x10, operand]
  | .ldDeD16 nn => [0x11, loByte nn, hiByte nn]
  | .ldIndDeA => [0x12]
  | .incDe => [0x13]
  | .incD => [0x14]
  | .decD => [0x15]
  | .ldDD8 n => [0x16, n]
  | .rla => [0x17]
  | .jrE8 e => [0x18, e]
  | .addHlDe => [0x19]
  | .ldAIndDe => [0x1A]
  | .decDe => [0x1B]
  | .incE => [0x1C]
  | .decE => [0x1D]
  | .ldED8 n => [0x1E, n]
  | .rra => [0x1F]
  | .jrNzE8 e => [0x20, e]
  | .ldHlD16 nn => [0x21, loByte nn, hiByte nn]
  | .ldIndHlIncA => [0x22]
  | .incHl => [0x23]
  | .incH => [0x24]
  | .decH => [0x25]
  | .ldHD8 n => [0x26, n]
  | .daa => [0x27]
  | .jrZE8 e => [0x28, e]
  | .addHlHl => [0x29]
  | .ldAIndHlInc => [0x2A]
  | .decHl => [0x2B]
  | .incL => [0x2C]
  | .decL => [0x2D]
  | .ldLD8 n => [0x2E, n]
  | .cpl => [0x2F]
  | .jrNcE8 e => [0x30, e]
  | .ldSpD16 nn => [0x31, loByte nn, hiByte nn]
  | .ldIndHlDecA => [0x32]
  | .incSp => [0x33]
  | .incIndHl => [0x34]
  | .decIndHl => [0x35]
  | .ldIndHlD8 n => [0x36, n]
  | .scf => [0x37]
  | .jrCE8 e => [0x38, e]
  | .addHlSp => [0x39]
  | .ldAIndHlDec => [0x3A]
  | .decSp => [0x3B]
  | .incA => [0x3C]
  | .decA => [0x3D]
  | .ldAD8 n => [0x3E, n]
  | .ccf => [0x3F]
  | .ldBB => [0x40]
  | .ldBC => [0x41]
  | .ldBD => [0x42]
  | .ldBE => [0x43]
  | .ldBH => [0x44]
  | .ldBL => [0x45]
  | .ldBIndHl => [0x46]
  | .ldBA => [0x47]
  | .ldCB => [0x48]
  | .ldCC => [0x49]
  | .ldCD => [0x4A]
  | .ldCE => [0x4B]
  | .ldCH => [0x4C]
  | .ldCL => [0x4D]
  | .ldCIndHl => [0x4E]
  | .ldCA => [0x4F]
  | .ldDB => [0x50]
  | .ldDC => [0x51]
  | .ldDD => [0x52]
  | .ldDE => [0x53]
  | .ldDH => [0x54]
  | .ldDL => [0x55]
  | .ldDIndHl => [0x56]
  | .ldDA => [0x57]
  | .ldEB => [0x58]
  | .ldEC => [0x59]
  | .ldED => [0x5A]
  | .ldEE => [0x5B]
  | .ldEH => [0x5C]
  | .ldEL => [0x5D]
  | .ldEIndHl => [0x5E]
  | .ldEA => [0x5F]
  | .ldHB => [0x60]
  | .ldHC => [0x61]
  | .ldHD => [0x62]
  | .ldHE => [0x63]
  | .ldHH => [0x64]
  | .ldHL => [0x65]
  | .ldHIndHl => [0x66]
  | .ldHA => [0x67]
  | .ldLB => [0x68]
  | .ldLC => [0x69]
  | .ldLD => [0x6A]
  | .ldLE => [0x6B]
  | .ldLH => [0x6C]
  | .ldLL => [0x6D]
  | .ldLIndHl => [0x6E]
  | .ldLA => [0x6F]
  | .ldIndHlB => [0x70]
  | .ldIndHlC => [0x71]
  | .ldIndHlD => [0x72]
  | .ldIndHlE => [0x73]
  | .ldIndHlH => [0x74]
  | .ldIndHlL => [0x75]
  | .halt => [0x76]
  | .ldIndHlA => [0x77]
  | .ldAB => [0x78]
  | .ldAC => [0x79]
  | .ldAD => [0x7A]
  | .ldAE => [0x7B]
  | .ldAH => [0x7C]
  | .ldAL => [0x7D]
  | .ldAIndHl => [0x7E]
  | .ldAA => [0x7F]
  | .addAB => [0x80]
  | .addAC => [0x81]
  | .addAD => [0x82]
  | .addAE => [0x83]
  | .addAH => [0x84]
  | .addAL => [0x85]
  | .addAIndHl => [0x86]
  | .addAA => [0x87]
  | .adcAB => [0x88]
  | .adcAC => [0x89]
  | .adcAD => [0x8A]
  | .adcAE => [0x8B]
  | .adcAH => [0x8C]
  | .adcAL => [0x8D]
  | .adcAIndHl => [0x8E]
  | .adcAA => [0x8F]
  | .subB => [0x90]
  | .subC => [0x91]
  | .subD => [0x92]
  | .subE => [0x93]
  | .subH => [0x94]
  | .subL => [0x95]
  | .subIndHl => [0x96]
  | .subA => [0x97]
  | .sbcAB => [0x98]
  | .sbcAC => [0x99]
  | .sbcAD => [0x9A]
  | .sbcAE => [0x9B]
  | .sbcAH => [0x9C]
  | .sbcAL => [0x9D]
  | .sbcAIndHl => [0x9E]
  | .sbcAA => [0x9F]
  | .andB => [0xA0]
  | .andC => [0xA1]
  | .andD => [0xA2]
  | .andE => [0xA3]
  | .andH => [0xA4]
  | .andL => [0xA5]
  | .andIndHl => [0xA6]
  | .andA => [0xA7]
  | .xorB => [0xA8]
  | .xorC => [0xA9]
  | .xorD => [0xAA]
  | .xorE => [0xAB]
  | .xorH => [0xAC]
  | .xorL => [0xAD]
  | .xorIndHl => [0xAE]
  | .xorA => [0xAF]
  | .orB => [0xB0]
  | .orC => [0xB1]
  | .orD => [0xB2]
  | .orE => [0xB3]
  | .orH => [0xB4]
  | .orL => [0xB5]
  | .orIndHl => [0xB6]
  | .orA => [0xB7]
  | .cpB => [0xB8]
  | .cpC => [0xB9]
  | .cpD => [0xBA]
  | .cpE => [0xBB]
  | .cpH => [0xBC]
  | .cpL => [0xBD]
  | .cpIndHl => [0xBE]
  | .cpA => [0xBF]
  | .retNz => [0xC0]
  | .popBc => [0xC1]
  | .jpNzA16 nn => [0xC2, loByte nn, hiByte nn]
  | .jpA16 nn => [0xC3, loByte nn, hiByte nn]
  | .callNzA16 nn => [0xC4, loByte nn, hiByte nn]
  | .pushBc => [0xC5]
  | .addAD8 n => [0xC6, n]
  | .rst00 => [0xC7]
  | .retZ => [0xC8]
  | .ret => [0xC9]
  | .jpZA16 nn => [0xCA, loByte nn, hiByte nn]
  | .prefixCb op2 => [0xCB, op2]
  | .callZA16 nn => [0xCC, loByte nn, hiByte nn]
  | .callA16 nn => [0xCD, loByte nn, hiByte nn]
  | .adcAD8 n => [0xCE, n]
  | .rst08 => [0xCF]
  | .retNc => [0xD0]
  | .popDe => [0xD1]
  | .jpNcA16 nn => [0xD2, loByte nn, hiByte nn]
  | .unknownD3 => [0xD3]
  | .callNcA16 nn => [0xD4, loByte nn, hiByte nn]
  | .pushDe => [0xD5]
  | .subD8 n => [0xD6, n]
  | .rst10 => [0xD7]
  | .retC => [0xD8]
  | .reti => [0xD9]
  | .jpCA16 nn => [0xDA, loByte nn, hiByte nn]
  | .unknownDB => [0xDB]
  | .callCA16 nn => [0xDC, loByte nn, hiByte nn]
  | .unknownDD => [0xDD]
  | .sbcAD8 n => [0xDE, n]
  | .rst18 => [0xDF]
  | .ldhIndA8A n => [0xE0, n]
  | .popHl => [0xE1]
  | .ldIndCA => [0xE2]
  | .unknownE3 => [0xE3]
  | .unknownE4 => [0xE4]
  | .pushHl => [0xE5]
  | .andD8 n => [0xE6, n]
  | .rst20 => [0xE7]
  | .addSpE8 e => [0xE8, e]
  | .jpHl => [0xE9]
  | .ldIndA16A nn => [0xEA, loByte nn, hiByte nn]
  | .unknownEB => [0xEB]
  | .unknownEC => [0xEC]
  | .unknownED => [0xED]
  | .xorD8 n => [0xEE, n]
  | .rst28 => [0xEF]
  | .ldhAIndA8 n => [0xF0, n]
  | .popAf => [0xF1]
  | .ldAIndC => [0xF2]
  | .di => [0xF3]
  | .unknownF4 => [0xF4]
  | .pushAf => [0xF5]
  | .orD8 n => [0xF6, n]
  | .rst30 => [0xF7]
  | .ldHlSpE8 e => [0xF8, e]
  | .ldSpHl => [0xF9]
  | .ldAIndA16 nn => [0xFA, loByte nn, hiByte nn]
  | .ei => [0xFB]
  | .unknownFC => [0xFC]
  | .unknownFD => [0xFD]
  | .cpD8 n => [0xFE, n]
  | .rst38 => [0xFF]
  | .rlcB => [0xCB, 0x00]
  | .rlcC => [0xCB, 0x01]
  | .rlcD => [0xCB, 0x02]
  | .rlcE => [0xCB, 0x03]
  | .rlcH => [0xCB, 0x04]
  | .rlcL => [0xCB, 0x05]
  | .rlcIndHl => [0xCB, 0x06]
  | .rlcA => [0xCB, 0x07]
  | .rrcB => [0xCB, 0x08]
  | .rrcC => [0xCB, 0x09]
  | .rrcD => [0xCB, 0x0A]
  | .rrcE => [0xCB, 0x0B]
  | .rrcH => [0xCB, 0x0C]
  | .rrcL => [0xCB, 0x0D]
  | .rrcIndHl => [0xCB, 0x0E]
  | .rrcA => [0xCB, 0x0F]
  | .rlB => [0xCB, 0x10]
  | .rlC => [0xCB, 0x11]
  | .rlD => [0xCB, 0x12]
  | .rlE => [0xCB, 0x13]
  | .rlH => [0xCB, 0x14]
  | .rlL => [0xCB, 0x15]
  | .rlIndHl => [0xCB, 0x16]
  | .rlA => [0xCB, 0x17]
  | .rrB => [0xCB, 0x18]
  | .rrC => [0xCB, 0x19]
  | .rrD => [0xCB, 0x1A]
  | .rrE => [0xCB, 0x1B]
  | .rrH => [0xCB, 0x1C]
  | .rrL => [0xCB, 0x1D]
  | .rrIndHl => [0xCB, 0x1E]
  | .rrA => [0xCB, 0x1F]
  | .slaB => [0xCB, 0x20]
  | .slaC => [0xCB, 0x21]
  | .slaD => [0xCB, 0x22]
  | .slaE => [0xCB, 0x23]
  | .slaH => [0xCB, 0x24]
  | .slaL => [0xCB, 0x25]
  | .slaIndHl => [0xCB, 0x26]
  | .slaA => [0xCB, 0x27]
  | .sraB => [0xCB, 0x28]
  | .sraC => [0xCB, 0x29]
  | .sraD => [0xCB, 0x2A]
  | .sraE => [0xCB, 0x2B]
  | .sraH => [0xCB, 0x2C]
  | .sraL => [0xCB, 0x2D]
  | .sraIndHl => [0xCB, 0x2E]
  | .sraA => [0xCB, 0x2F]
  | .swapB => [0xCB, 0x30]
  | .swapC => [0xCB, 0x31]
  | .swapD => [0xCB, 0x32]
  | .swapE => [0xCB, 0x33]
  | .swapH => [0xCB, 0x34]
  | .swapL => [0xCB, 0x35]
  | .swapIndHl => [0xCB, 0x36]
  | .swapA => [0xCB, 0x37]
  | .srlB => [0xCB, 0x38]
  | .srlC => [0xCB, 0x39]
  | .srlD => [0xCB, 0x3A]
  | .srlE => [0xCB, 0x3B]
  | .srlH => [0xCB, 0x3C]
  | .srlL => [0xCB, 0x3D]
  | .srlIndHl => [0xCB, 0x3E]
  | .srlA => [0xCB, 0x3F]
  | .bit0B => [0xCB, 0x40]
  | .bit0C => [0xCB, 0x41]
  | .bit0D => [0xCB, 0x42]
  | .bit0E => [0xCB, 0x43]
  | .bit0H => [0xCB, 0x44]
  | .bit0L => [0xCB, 0x45]
  | .bit0IndHl => [0xCB, 0x46]
  | .bit0A => [0xCB, 0x47]
  | .bit1B => [0xCB, 0x48]
  | .bit1C => [0xCB, 0x49]
  | .bit1D => [0xCB, 0x4A]
  | .bit1E => [0xCB, 0x4B]
  | .bit1H => [0xCB, 0x4C]
  | .bit1L => [0xCB, 0x4D]
  | .bit1IndHl => [0xCB, 0x4E]
  | .bit1A => [0xCB, 0x4F]
  | .bit2B => [0xCB, 0x50]
  | .bit2C => [0xCB, 0x51]
  | .bit2D => [0xCB, 0x52]
  | .bit2E => [0xCB, 0x53]
  | .bit2H => [0xCB, 0x54]
  | .bit2L => [0xCB, 0x55]
  | .bit2IndHl => [0xCB, 0x56]
  | .bit2A => [0xCB, 0x57]
  | .bit3B => [0xCB, 0x58]
  | .bit3C => [0xCB, 0x59]
  | .bit3D => [0xCB, 0x5A]
  | .bit3E => [0xCB, 0x5B]
  | .bit3H => [0xCB, 0x5C]
  | .bit3L => [0xCB, 0x5D]
  | .bit3IndHl => [0xCB, 0x5E]
  | .bit3A => [0xCB, 0x5F]
  | .bit4B => [0xCB, 0x60]
  | .bit4C => [0xCB, 0x61]
  | .bit4D => [0xCB, 0x62]
  | .bit4E => [0xCB, 0x63]
  | .bit4H => [0xCB, 0x64]
  | .bit4L => [0xCB, 0x65]
  | .bit4IndHl => [0xCB, 0x66]
  | .bit4A => [0xCB, 0x67]
  | .bit5B => [0xCB, 0x68]
  | .bit5C => [0xCB, 0x69]
  | .bit5D => [0xCB, 0x6A]
  | .bit5E => [0xCB, 0x6B]
  | .bit5H => [0xCB, 0x6C]
  | .bit5L => [0xCB, 0x6D]
  | .bit5IndHl => [0xCB, 0x6E]
  | .bit5A => [0xCB, 0x6F]
  | .bit6B => [0xCB, 0x70]
  | .bit6C => [0xCB, 0x71]
  | .bit6D => [0xCB, 0x72]
  | .bit6E => [0xCB, 0x73]
  | .bit6H => [0xCB, 0x74]
  | .bit6L => [0xCB, 0x75]
  | .bit6IndHl => [0xCB, 0x76]
  | .bit6A => [0xCB, 0x77]
  | .bit7B => [0xCB, 0x78]
  | .bit7C => [0xCB, 0x79]
  | .bit7D => [0xCB, 0x7A]
  | .bit7E => [0xCB, 0x7B]
  | .bit7H => [0xCB, 0x7C]
  | .bit7L => [0xCB, 0x7D]
  | .bit7IndHl => [0xCB, 0x7E]
  | .bit7A => [0xCB, 0x7F]
  | .res0B => [0xCB, 0x80]
  | .res0C => [0xCB, 0x81]
  | .res0D => [0xCB, 0x82]
  | .res0E => [0xCB, 0x83]
  | .res0H => [0xCB, 0x84]
  | .res0L => [0xCB, 0x85]
  | .res0IndHl => [0xCB, 0x86]
  | .res0A => [0xCB, 0x87]
  | .res1B => [0xCB, 0x88]
  | .res1C => [0xCB, 0x89]
  | .res1D => [0xCB, 0x8A]
  | .res1E => [0xCB, 0x8B]
  | .res1H => [0xCB, 0x8C]
  | .res1L => [0xCB, 0x8D]
  | .res1IndHl => [0xCB, 0x8E]
  | .res1A => [0xCB, 0x8F]
  | .res2B => [0xCB, 0x90]
  | .res2C => [0xCB, 0x91]
  | .res2D => [0xCB, 0x92]
  | .res2E => [0xCB, 0x93]
  | .res2H => [0xCB, 0x94]
  | .res2L => [0xCB, 0x95]
  | .res2IndHl => [0xCB, 0x96]
  | .res2A => [0xCB, 0x97]
  | .res3B => [0xCB, 0x98]
  | .res3C => [0xCB, 0x99]
  | .res3D => [0xCB, 0x9A]
  | .res3E => [0xCB, 0x9B]
  | .res3H => [0xCB, 0x9C]
  | .res3L => [0xCB, 0x9D]
  | .res3IndHl => [0xCB, 0x9E]
  | .res3A => [0xCB, 0x9F]
  | .res4B => [0xCB, 0xA0]
  | .res4C => [0xCB, 0xA1]
  | .res4D => [0xCB, 0xA2]
  | .res4E => [0xCB, 0xA3]
  | .res4H => [0xCB, 0xA4]
  | .res4L => [0xCB, 0xA5]
  | .res4IndHl => [0xCB, 0xA6]
  | .res4A => [0xCB, 0xA7]
  | .res5B => [0xCB, 0xA8]
  | .res5C => [0xCB, 0xA9]
  | .res5D => [0xCB, 0xAA]
  | .res5E => [0xCB, 0xAB]
  | .res5H => [0xCB, 0xAC]
  | .res5L => [0xCB, 0xAD]
  | .res5IndHl => [0xCB, 0xAE]
  | .res5A => [0xCB, 0xAF]
  | .res6B => [0xCB, 0xB0]
  | .res6C => [0xCB, 0xB1]
  | .res6D => [0xCB, 0xB2]
  | .res6E => [0xCB, 0xB3]
  | .res6H => [0xCB, 0xB4]
  | .res6L => [0xCB, 0xB5]
  | .res6IndHl => [0xCB, 0xB6]
  | .res6A => [0xCB, 0xB7]
  | .res7B => [0xCB, 0xB8]
  | .res7C => [0xCB, 0xB9]
  | .res7D => [0xCB, 0xBA]
  | .res7E => [0xCB, 0xBB]
  | .res7H => [0xCB, 0xBC]
  | .res7L => [0xCB, 0xBD]
  | .res7IndHl => [0xCB, 0xBE]
  | .res7A => [0xCB, 0xBF]
  | .set0B => [0xCB, 0xC0]
  | .set0C => [0xCB, 0xC1]
  | .set0D => [0xCB, 0xC2]
  | .set0E => [0xCB, 0xC3]
  | .set0H => [0xCB, 0xC4]
  | .set0L => [0xCB, 0xC5]
  | .set0IndHl => [0xCB, 0xC6]
  | .set0A => [0xCB, 0xC7]
  | .set1B => [0xCB, 0xC8]
  | .set1C => [0xCB, 0xC9]
  | .set1D => [0xCB, 0xCA]
  | .set1E => [0xCB, 0xCB]
  | .set1H => [0xCB, 0xCC]
  | .set1L => [0xCB, 0xCD]
  | .set1IndHl => [0xCB, 0xCE]
  | .set1A => [0xCB, 0xCF]
  | .set2B => [0xCB, 0xD0]
  | .set2C => [0xCB, 0xD1]
  | .set2D => [0xCB, 0xD2]
  | .set2E => [0xCB, 0xD3]
  | .set2H => [0xCB, 0xD4]
  | .set2L => [0xCB, 0xD5]
  | .set2IndHl => [0xCB, 0xD6]
  | .set2A => [0xCB, 0xD7]
  | .set3B => [0xCB, 0xD8]
  | .set3C => [0xCB, 0xD9]
  | .set3D => [0xCB, 0xDA]
  | .set3E => [0xCB, 0xDB]
  | .set3H => [0xCB, 0xDC]
  | .set3L => [0xCB, 0xDD]
  | .set3IndHl => [0xCB, 0xDE]
  | .set3A => [0xCB, 0xDF]
  | .set4B => [0xCB, 0xE0]
  | .set4C => [0xCB, 0xE1]
  | .set4D => [0xCB, 0xE2]
  | .set4E => [0xCB, 0xE3]
  | .set4H => [0xCB, 0xE4]
  | .set4L => [0xCB, 0xE5]
  | .set4IndHl => [0xCB, 0xE6]
  | .set4A => [0xCB, 0xE7]
  | .set5B => [0xCB, 0xE8]
  | .set5C => [0xCB, 0xE9]
  | .set5D => [0xCB, 0xEA]
  | .set5E => [0xCB, 0xEB]
  | .set5H => [0xCB, 0xEC]
  | .set5L => [0xCB, 0xED]
  | .set5IndHl => [0xCB, 0xEE]
  | .set5A => [0xCB, 0xEF]
  | .set6B => [0xCB, 0xF0]
  | .set6C => [0xCB, 0xF1]
  | .set6D => [0xCB, 0xF2]
  | .set6E => [0xCB, 0xF3]
  | .set6H => [0xCB, 0xF4]
  | .set6L => [0xCB, 0xF5]
  | .set6IndHl => [0xCB, 0xF6]
  | .set6A => [0xCB, 0xF7]
  | .set7B => [0xCB, 0xF8]
  | .set7C => [0xCB, 0xF9]
  | .set7D => [0xCB, 0xFA]
  | .set7E => [0xCB, 0xFB]
  | .set7H => [0xCB, 0xFC]
  | .set7L => [0xCB, 0xFD]
  | .set7IndHl => [0xCB, 0xFE]
  | .set7A => [0xCB, 0xFF]

/-! ### Words numbered as spec/opcode_table.json numbers them -/

/-- The three bytes in fetch order of a table word of `nbits` bits, the bits above it zero. A base row's
word is its first byte, in bits 7..0. A CB row's 16-bit word is `0xCB00 | op2`, "the first two bytes read
as `cat(byte0, byte1)`" (R93), so its first byte is in bits 15..8. DEDUCED (log 9). -/
def tableBytes (nbits w : Nat) : Byte × Byte × Byte :=
  let byte (k : Nat) : Byte := BitVec.ofNat 8 (w / 2 ^ (8 * k))
  if nbits ≤ 8 then (byte 0, 0, 0)
  else if nbits ≤ 16 then
    if byte 1 = 0xCB then (byte 1, byte 0, 0) else (byte 0, byte 1, 0)
  else (byte 0, byte 1, byte 2)

/-- The setting of `CB_PREFIX` a table word is read under: a word of 8 bits is a row of the first-byte map,
where 0xCB is the row PREFIX_CB, and a longer word a row of the CB map. DEDUCED (log 9). -/
def tableCbPrefix (nbits : Nat) : CbPrefix := if nbits ≤ 8 then .refuse else .execute

/-- The instruction the decoder reads from a table word. -/
def decodeTableWord (nbits w : Nat) : Option Instr :=
  let (b0, b1, b2) := tableBytes nbits w
  match decode (tableCbPrefix nbits) [b0, b1, b2] with
  | .ok (i, _) => some i
  | .error _ => none

end Sys2Proof
end

