-- ==== Sys2Proof/Machine/State.lean ====
section
/-! DEFINITION. The state of the core (spec/10_state.md R20 to R38), the reasons a step can stop, and
the state right after reset. -/

namespace Sys2Proof.Machine

/-- The memory array `mem[0..65535]` (R35): the listed bytes, addresses strictly rising, none equal to
`Memory.unlisted`, which every address not listed reads as. -/
abbrev Memory := List Host.Cell

/-- What an unlisted address reads as: memory is 0 at reset except the ROM image (R35, R38). -/
def Memory.unlisted : Byte := 0

/-- One entry of the unknown-opcode log: the address and the opcode byte (R33). -/
structure Event where
  pc : Word
  op : Byte
  deriving DecidableEq, Repr

/-- The reasons `refused` can hold (R34). -/
inductive RefuseReason where
  | cbPrefixRefused
  | stopNonZeroOperand
  deriving DecidableEq, Repr

/-- The core's state. F, AF, BC, DE and HL are computed views (R20, R21, R25) and have no field. -/
structure State where
  /-- The seven 8-bit registers (R20). -/
  a : Byte
  b : Byte
  c : Byte
  d : Byte
  e : Byte
  h : Byte
  l : Byte
  /-- The flag state: zero, subtract, half-carry, carry (R24). -/
  fz : Bool
  fn : Bool
  fh : Bool
  fc : Bool
  /-- The stack pointer (R28). -/
  sp : Word
  /-- The program counter (R27). -/
  pc : Word
  /-- Running (true) or Halted (R30). -/
  running : Bool
  /-- The interrupt master enable (R31). -/
  ime : Bool
  /-- EI executed in the previous step and IME is still to be set (R32). -/
  imePending : Bool
  /-- The unknown-opcode log, oldest first (R33). -/
  events : List Event
  /-- The sticky refusal mark (R34). -/
  refused : Option RefuseReason
  /-- The memory array (R35). -/
  mem : Memory
  /-- The MODEL's own field: the parameters of R9 the machine was built with. Not state of the spec
  (R36), and no step changes it. DESIGN CHOICE (log 1). -/
  params : Params
  deriving DecidableEq, Repr

/-- Why the machine has stopped. -/
inductive Fault where
  /-- Raised by `step` alone, in a state with `running = 0`: Halted is final and no step exists (R110).
  Safe: no state follows. -/
  | halted
  deriving DecidableEq, Repr

/-- Why there is no step. -/
inductive Refusal where
  /-- Raised by no definition: every arm of `exec` has its meaning. Safe. -/
  | notModelled (mnemonic : String)
  /-- Raised by `step` alone, in a state whose mark is `CBPrefixRefused` (R34, R109, R110). Safe: no
  state follows. -/
  | cbPrefixRefused
  /-- Raised by `step` alone, in a state whose mark is `StopNonZeroOperand` (R34, R105, R110). Safe: no
  state follows. -/
  | stopNonZeroOperand
  deriving DecidableEq, Repr

/-- What a meaning and a step answer. -/
abbrev Out := Host.Outcome State Fault Refusal

/-- The state after construction with parameters `p` and RESET_REGS `r`, before a ROM is loaded (R38). -/
def State.ofReset (p : Params) (r : ResetRegs) : State :=
  { a := r.a, b := r.b, c := r.c, d := r.d, e := r.e, h := r.h, l := r.l,
    fz := r.fz, fn := r.fn, fh := r.fh, fc := r.fc,
    sp := r.sp, pc := 0x0000,
    running := true, ime := false, imePending := false,
    events := [], refused := none, mem := [], params := p }

/-- The machine right after reset (R38): RESET_REGS all zero, no ROM loaded, parameters `Params.model`
(log 1, log 2). -/
def State.reset : State := State.ofReset Params.model ResetRegs.zero

end Sys2Proof.Machine
end

