-- ==== Sys2Proof/Machine/Ops.lean ====
section
/-! DEFINITION. The named operations every instruction is built from: memory, the 16-bit helpers, the
stack, the outcome primitives and the end of a step. The core takes no exception and no interrupt
(spec/60_exceptions.md R300, R302, R305), so there is no exception entry among them. -/

namespace Sys2Proof.Machine

/-! ### The memory array (R35, R50) -/

/-- `BUS_SIZE` (R8). -/
def busSize : Nat := 65536

/-- The byte at an address (R50). -/
def Memory.read : Memory → Nat → Byte
  | [], _ => Memory.unlisted
  | (k, v) :: rest, a => if k = a then v else Memory.read rest a

/-- The memory with one byte stored (R50), in canonical form again: storing what an unlisted address
reads as removes the entry. -/
def Memory.write : Memory → Nat → Byte → Memory
  | [], a, v => if v = Memory.unlisted then [] else [(a, v)]
  | (k, w) :: rest, a, v =>
    if a < k then
      if v = Memory.unlisted then (k, w) :: rest else (a, v) :: (k, w) :: rest
    else if a = k then
      if v = Memory.unlisted then rest else (a, v) :: rest
    else
      (k, w) :: Memory.write rest a v

/-- Canonical from `lo` up: addresses rise strictly from `lo` and stay below `busSize`, no listed byte
equals what an unlisted address reads as. -/
def Memory.wfFrom : Nat → Memory → Bool
  | _, [] => true
  | lo, (k, v) :: rest =>
    decide (lo ≤ k) && decide (k < busSize) && decide (v ≠ Memory.unlisted) && Memory.wfFrom (k + 1) rest

/-- The canonical form of the memory array. -/
def Memory.wf (m : Memory) : Bool := Memory.wfFrom 0 m

/-- `MemRead(addr, 1)` (R13, R50). A 16-bit address is always below `BUS_SIZE` (R51). -/
def State.read8 (s : State) (addr : Word) : Byte := Memory.read s.mem addr.toNat

/-- `MemWrite(addr, 1, v)` (R13, R50). -/
def State.write8 (s : State) (addr : Word) (v : Byte) : State :=
  { s with mem := Memory.write s.mem addr.toNat v }

/-- `Read16(addr)`: the low byte at addr, the high byte at addr + 1 (R52). -/
def State.read16 (s : State) (addr : Word) : Word := cat (s.read8 (addr + 1)) (s.read8 addr)

/-- `Write16(addr, v)`: the low byte first (R52). -/
def State.write16 (s : State) (addr : Word) (v : Word) : State :=
  (s.write8 addr (loByte v)).write8 (addr + 1) (hiByte v)

/-! ### The stack (R230, R231) -/

/-- One byte pushed: SP is decremented first, then the byte is written (R28, R230). -/
def State.pushByte (s : State) (v : Byte) : State :=
  { s with sp := s.sp - 1 }.write8 (s.sp - 1) v

/-- `Push16(v)`: the high byte, then the low byte (R230). -/
def State.push16 (s : State) (v : Word) : State := (s.pushByte (hiByte v)).pushByte (loByte v)

/-- The value `Pop16()` returns: low byte at SP, high byte at SP + 1 (R231). -/
def State.popValue (s : State) : Word := cat (s.read8 (s.sp + 1)) (s.read8 s.sp)

/-- The state `Pop16()` leaves: SP has grown by 2, memory is as before (R231, R237). -/
def State.popped (s : State) : State := { s with sp := s.sp + 1 + 1 }

/-! ### Outcome primitives (R16) -/

/-- `halt()` (R16, R30). -/
def State.halt (s : State) : State := { s with running := false }

/-- `report UnknownOpcode(pc, op)` appends to the log (R16, R33). -/
def State.report (s : State) (op : Byte) : State :=
  { s with events := s.events ++ [{ pc := s.pc, op := op }] }

/-- `refuse <Reason>`: the step sets the mark and writes nothing else, PC included (R16, R34, R102). -/
def refuse (reason : RefuseReason) (s : State) : Out := .next { s with refused := some reason }

/-! ### The end of a step (R102) -/

/-- `next = trunc16(pc + len)` (R15). -/
def State.nextPc (s : State) (len : Nat) : Word := s.pc + BitVec.ofNat 16 len

/-- The EI-delay lines of `finish(was_pending)` (R102): if EI was pending when the step began and still
is, IME is set and the pending bit cleared. -/
def State.settleIme (wasPending : Bool) (s : State) : State :=
  { s with ime := s.ime || (wasPending && s.imePending), imePending := s.imePending && !wasPending }

/-- `finish(was_pending)` (R102) for a step that began in `s0`, whose handler left `s` and chose `pc`. -/
def endStep (s0 : State) (pc : Word) (s : State) : Out :=
  .next (State.settleIme s0.imePending { s with pc := pc })

/-- The end of a step that performed no `pc <- target`: PC moves past the instruction (R102). -/
def advance (len : Nat) (s0 s : State) : Out := endStep s0 (s0.nextPc len) s

/-! ### The beginning of a step (R100, R110) -/

/-- Why there is no step from `s`, if there is none (R110): Halted is final, and a refused state has no
step. DESIGN CHOICE (log 6): the two answers, and that Halted is looked at first, as the driver does (R318). -/
def noStep (s : State) : Option Out :=
  if s.running then
    match s.refused with
    | none => none
    | some .cbPrefixRefused => some (.refused .cbPrefixRefused)
    | some .stopNonZeroOperand => some (.refused .stopNonZeroOperand)
  else some (.fault .halted)

/-- The instruction at PC: the opcode at pc, immediates at pc + 1 and pc + 2, read with wrap before the
handler runs (R15, R51, R64, R100). Bytes past the instruction's length are looked at by no row (log 10). -/
def fetch (s : State) : Instr :=
  decodeAt s.params.cbPrefix (s.read8 s.pc) (s.read8 (s.pc + 1)) (s.read8 (s.pc + 2))

end Sys2Proof.Machine
end

