-- ==== Sys2Proof/Machine/Flags.lean ====
section
/-! DEFINITION. The flag register (spec/10_state.md R24 to R26) and every result and flag computation of
the spec, on exact integers (R11), narrowed at the end. -/

namespace Sys2Proof.Machine

/-- A flag as a number (R10). -/
def flagBit (f : Bool) : Byte := if f then 1 else 0

/-- `F = (FZ << 7) | (FN << 6) | (FH << 5) | (FC << 4)` (R25). -/
def packF (z n h c : Bool) : Byte :=
  flagBit z <<< 7 ||| flagBit n <<< 6 ||| flagBit h <<< 5 ||| flagBit c <<< 4

/-- The F register: derived, its low nibble always 0 (R25). -/
def State.f (s : State) : Byte := packF s.fz s.fn s.fh s.fc

/-- `SetFlags(z, n, h, c)`, the one flag update (R26). -/
def State.setFlags (s : State) (z n h c : Bool) : State :=
  { s with fz := z, fn := n, fh := h, fc := c }

/-- A result byte and the four flags that go with it. -/
structure AluResult where
  value : Byte
  z : Bool
  n : Bool
  h : Bool
  c : Bool
  deriving DecidableEq, Repr

/-! ### 8-bit ALU (R131 to R156) -/

/-- ADD, and ADC with the carry folded into every sum (R131, R132). -/
def addResult (a b : Byte) (carry : Bool) : AluResult :=
  let sum := a.toNat + b.toNat + carry.toNat
  { value := trunc8 sum
    z := trunc8 sum == 0
    n := false
    h := decide (a.toNat % 16 + b.toNat % 16 + carry.toNat > 0xF)
    c := decide (sum > 0xFF) }

/-- SUB and CP, and SBC with the borrow folded into every comparison (R131, R132). -/
def subResult (a b : Byte) (carry : Bool) : AluResult :=
  let diff : Int := (a.toNat : Int) - b.toNat - carry.toNat
  { value := trunc8 diff
    z := trunc8 diff == 0
    n := true
    h := decide (a.toNat % 16 < b.toNat % 16 + carry.toNat)
    c := decide (a.toNat < b.toNat + carry.toNat) }

/-- AND, OR, XOR: half-carry forced, carry cleared (R131). -/
def logicResult (value : Byte) (half : Bool) : AluResult :=
  { value := value, z := value == 0, n := false, h := half, c := false }

/-- The result of an ALU operation on A and the second operand, `fc` the carry before (R133 to R156). -/
def aluResult (op : AluOp) (a b : Byte) (fc : Bool) : AluResult :=
  match op with
  | .add => addResult a b false
  | .adc => addResult a b fc
  | .sub => subResult a b false
  | .sbc => subResult a b fc
  | .and => logicResult (a &&& b) true
  | .xor => logicResult (a ^^^ b) false
  | .or  => logicResult (a ||| b) false
  | .cp  => subResult a b false

/-- INC of a byte (R157, R158). -/
def incResult (mode : IncDecCarry) (v : Byte) (fc : Bool) : AluResult :=
  let res := trunc8 (v.toNat + 1)
  { value := res
    z := res == 0
    n := false
    h := decide (v.toNat % 16 + 1 > 0xF)
    c := match mode with
      | .preserve => fc
      | .derive => v == 0xFF }

/-- DEC of a byte (R157, R160). -/
def decResult (mode : IncDecCarry) (v : Byte) (fc : Bool) : AluResult :=
  let res := trunc8 ((v.toNat : Int) - 1)
  { value := res
    z := res == 0
    n := true
    h := decide (v.toNat % 16 < 1)
    c := match mode with
      | .preserve => fc
      | .derive => v == 0x00 }

/-! ### Rotates and shifts (R170 to R173, R281 to R288) -/

/-- `trunc8((v << 1) | c)`. -/
def shiftLeftIn (v : Byte) (c : Bool) : Byte := v <<< 1 ||| flagBit c

/-- `(v >> 1) | (c << 7)`. -/
def shiftRightIn (v : Byte) (c : Bool) : Byte := v >>> 1 ||| flagBit c <<< 7

/-- The rotated A and the bit that went to the carry, `fc` the carry before (R170 to R173). -/
def rotAResult (op : RotA) (a : Byte) (fc : Bool) : Byte × Bool :=
  match op with
  | .rlca => (shiftLeftIn a (a.getLsbD 7), a.getLsbD 7)
  | .rrca => (shiftRightIn a (a.getLsbD 0), a.getLsbD 0)
  | .rla  => (shiftLeftIn a fc, a.getLsbD 7)
  | .rra  => (shiftRightIn a fc, a.getLsbD 0)

/-- The shifted operand and the carry out (R281 to R288). -/
def shiftResult (op : ShiftOp) (v : Byte) (fc : Bool) : Byte × Bool :=
  match op with
  | .rlc  => (shiftLeftIn v (v.getLsbD 7), v.getLsbD 7)
  | .rrc  => (shiftRightIn v (v.getLsbD 0), v.getLsbD 0)
  | .rl   => (shiftLeftIn v fc, v.getLsbD 7)
  | .rr   => (shiftRightIn v fc, v.getLsbD 0)
  | .sla  => (v <<< 1, v.getLsbD 7)
  | .sra  => (v >>> 1 ||| v &&& 0x80, v.getLsbD 0)
  | .swap => ((v &&& 0x0F) <<< 4 ||| v >>> 4, false)
  | .srl  => (v >>> 1, v.getLsbD 0)

/-! ### Decimal adjust (R174) -/

/-- The addition branch of DAA: the adjusted value and carry. -/
def daaAdd (a : Byte) (h c : Bool) : Int × Bool :=
  let high := c || decide (a.toNat > 0x99)
  let a1 : Int := if high then a.toNat + 0x60 else a.toNat
  let low := h || decide (a.toNat % 16 > 0x09)
  (if low then a1 + 0x06 else a1, high)

/-- The subtraction branch of DAA: the carry stays. -/
def daaSub (a : Byte) (h c : Bool) : Int × Bool :=
  let a1 : Int := if c then a.toNat - 0x60 else a.toNat
  (if h then a1 - 0x06 else a1, c)

/-- DAA: the adjusted A and the carry (R174). -/
def daaResult (a : Byte) (n h c : Bool) : Byte × Bool :=
  let r := if n then daaSub a h c else daaAdd a h c
  (trunc8 r.1, r.2)

/-! ### 16-bit additions (R192 to R194) -/

/-- ADD HL,rr: the sum, the carry out of bit 11 and the carry out of bit 15 (R192). -/
def add16Result (h v : Word) : Word × Bool × Bool :=
  let sum := h.toNat + v.toNat
  (trunc16 sum, decide (h.toNat % 0x1000 + v.toNat % 0x1000 > 0x0FFF), decide (sum > 0xFFFF))

/-- `sext_16(v)` (R11). -/
def sext16 (v : Byte) : Word := v.signExtend 16

/-- SP + e8: the wrapped sum, and the carries out of bit 3 and bit 7 of the unsigned addition of the low
byte of SP and the byte (R193). -/
def addSpResult (sp : Word) (e : Byte) : Word × Bool × Bool :=
  (sp + sext16 e,
    decide (sp.toNat % 0x10 + e.toNat % 0x10 > 0xF),
    decide (sp.toNat % 0x100 + e.toNat > 0xFF))

end Sys2Proof.Machine
end

