-- ==== Sys2Proof/Machine/Operands.lean ====
section
/-! DEFINITION. Every operand form: registers, pairs, the r8 code with (HL), the ALU's second operand,
conditions, high-page addresses (spec/10_state.md R20 to R22, spec/30_encoding.md R73 to R79). -/

namespace Sys2Proof.Machine

/-- A register's value (R20). -/
def State.reg (s : State) : Reg8 → Byte
  | .b => s.b | .c => s.c | .d => s.d | .e => s.e | .h => s.h | .l => s.l | .a => s.a

/-- A register written (R12). -/
def State.setReg (s : State) (r : Reg8) (v : Byte) : State :=
  match r with
  | .b => { s with b := v }
  | .c => { s with c := v }
  | .d => { s with d := v }
  | .e => { s with e := v }
  | .h => { s with h := v }
  | .l => { s with l := v }
  | .a => { s with a := v }

/-- The pair views, high byte first letter (R21). -/
def State.bc (s : State) : Word := cat s.b s.c
def State.de (s : State) : Word := cat s.d s.e
def State.hl (s : State) : Word := cat s.h s.l

/-- `get_pair(AF)`: F from the flags, so its low nibble is 0 (R22). -/
def State.af (s : State) : Word := cat s.a s.f

/-- `set_pair(p, v)`, both bytes as one update (R21). -/
def State.setBc (s : State) (v : Word) : State := { s with b := hiByte v, c := loByte v }
def State.setDe (s : State) (v : Word) : State := { s with d := hiByte v, e := loByte v }
def State.setHl (s : State) (v : Word) : State := { s with h := hiByte v, l := loByte v }

/-- `set_pair(AF, v)`: A from the high byte, the flags from bits 7 to 4, bits 3 to 0 dropped (R22). -/
def State.setAf (s : State) (v : Word) : State :=
  { s with a := hiByte v }.setFlags (v.getLsbD 7) (v.getLsbD 6) (v.getLsbD 5) (v.getLsbD 4)

/-- The 16-bit operand of an `rp` code (R76). -/
def State.pair (s : State) : Pair → Word
  | .bc => s.bc | .de => s.de | .hl => s.hl | .sp => s.sp

/-- An `rp` operand written: set_pair, or SP (R76, R245). -/
def State.setPair (s : State) (p : Pair) (v : Word) : State :=
  match p with
  | .bc => s.setBc v
  | .de => s.setDe v
  | .hl => s.setHl v
  | .sp => { s with sp := v }

/-- The value PUSH stores for an `rp2` code (R77, R232). -/
def State.stackPair (s : State) : StackPair → Word
  | .bc => s.bc | .de => s.de | .hl => s.hl | .af => s.af

/-- An `rp2` operand written by POP (R77, R233, R234). -/
def State.setStackPair (s : State) (p : StackPair) (v : Word) : State :=
  match p with
  | .bc => s.setBc v
  | .de => s.setDe v
  | .hl => s.setHl v
  | .af => s.setAf v

/-- `R8(c)`: the register, or the byte at HL (R12, R75). -/
def State.opnd (s : State) : Opnd8 → Byte
  | .reg r => s.reg r
  | .indHl => s.read8 s.hl

/-- `W8(c, v)` (R12, R75). -/
def State.setOpnd (s : State) (o : Opnd8) (v : Byte) : State :=
  match o with
  | .reg r => s.setReg r v
  | .indHl => s.write8 s.hl v

/-- The second operand of an 8-bit ALU instruction (R130). -/
def State.aluSrc (s : State) : AluSrc → Byte
  | .reg r => s.reg r
  | .indHl => s.read8 s.hl
  | .imm n => n

/-- The length of an ALU instruction: a d8 operand takes a byte (R70, R86). -/
def aluLen : AluSrc → Nat
  | .reg _ => 1
  | .indHl => 1
  | .imm _ => 2

/-- `cond(cc)` (R78, R200). -/
def State.cond (s : State) : Cond → Bool
  | .nz => !s.fz
  | .z => s.fz
  | .nc => !s.fc
  | .c => s.fc

/-- The high-page address `0xFF00 + v` of LDH, LD (C),A and LD A,(C) (R73, R256, R258). -/
def highPage (v : Byte) : Word := 0xFF00 + v.setWidth 16

/-- The RST vector `t * 8` (R79). -/
def rstVector (t : Idx8) : Word := BitVec.ofNat 16 (t.val * 8)

end Sys2Proof.Machine
end

