-- ==== Sys2Proof/Machine/Alu16.lean ====
section
/-! DEFINITION. 16-bit arithmetic (spec/43_alu16.md R190 to R194). -/

namespace Sys2Proof.Machine

/-- INC rr: no flag changes (R190). -/
def incPair (p : Pair) (s : State) : Out := advance 1 s (s.setPair p (s.pair p + 1))

/-- DEC rr: no flag changes (R191). -/
def decPair (p : Pair) (s : State) : Out := advance 1 s (s.setPair p (s.pair p - 1))

/-- ADD HL,rr: Z is kept (R192). -/
def addHl (p : Pair) (s : State) : Out :=
  let r := add16Result s.hl (s.pair p)
  advance 1 s ((s.setHl r.1).setFlags s.fz false r.2.1 r.2.2)

/-! ### The instructions -/

/-- INC BC, 0x03 (R190). -/
def execIncBc (s : State) : Out := incPair .bc s

/-- ADD HL,BC, 0x09 (R192). -/
def execAddHlBc (s : State) : Out := addHl .bc s

/-- DEC BC, 0x0B (R191). -/
def execDecBc (s : State) : Out := decPair .bc s

/-- INC DE, 0x13 (R190). -/
def execIncDe (s : State) : Out := incPair .de s

/-- ADD HL,DE, 0x19 (R192). -/
def execAddHlDe (s : State) : Out := addHl .de s

/-- DEC DE, 0x1B (R191). -/
def execDecDe (s : State) : Out := decPair .de s

/-- INC HL, 0x23 (R190). -/
def execIncHl (s : State) : Out := incPair .hl s

/-- ADD HL,HL, 0x29 (R192). -/
def execAddHlHl (s : State) : Out := addHl .hl s

/-- DEC HL, 0x2B (R191). -/
def execDecHl (s : State) : Out := decPair .hl s

/-- INC SP, 0x33 (R190). -/
def execIncSp (s : State) : Out := incPair .sp s

/-- ADD HL,SP, 0x39 (R192). -/
def execAddHlSp (s : State) : Out := addHl .sp s

/-- DEC SP, 0x3B (R191). -/
def execDecSp (s : State) : Out := decPair .sp s

/-- ADD SP,e8, 0xE8 (R193). -/
def execAddSpE8 (e : Byte) (s : State) : Out :=
  let r := addSpResult s.sp e
  advance 2 s ({ s with sp := r.1 }.setFlags false false r.2.1 r.2.2)

/-- LD HL,SP+e8, 0xF8 (R194). -/
def execLdHlSpE8 (e : Byte) (s : State) : Out :=
  let r := addSpResult s.sp e
  advance 2 s ((s.setHl r.1).setFlags false false r.2.1 r.2.2)

end Sys2Proof.Machine
end

