-- ==== Sys2Proof/Machine/Alu8.lean ====
section
/-! DEFINITION. The 8-bit ALU, INC and DEC (spec/41_alu8.md R130 to R161). -/

namespace Sys2Proof.Machine

/-- Whether the operation writes its result to A: CP discards it (R154). -/
def writesA : AluOp → Bool
  | .add => true | .adc => true | .sub => true | .sbc => true
  | .and => true | .xor => true | .or => true | .cp => false

/-- An ALU instruction on A and `src` (R130 to R156). -/
def alu8 (op : AluOp) (src : AluSrc) (s : State) : Out :=
  let r := aluResult op s.a (s.aluSrc src) s.fc
  let s1 := if writesA op then { s with a := r.value } else s
  advance (aluLen src) s (s1.setFlags r.z r.n r.h r.c)

/-- INC of a register or of the byte at HL (R157 to R159). -/
def inc8 (o : Opnd8) (s : State) : Out :=
  let r := incResult s.params.incDecCarry (s.opnd o) s.fc
  advance 1 s ((s.setOpnd o r.value).setFlags r.z r.n r.h r.c)

/-- DEC of a register or of the byte at HL (R157, R160, R161). -/
def dec8 (o : Opnd8) (s : State) : Out :=
  let r := decResult s.params.incDecCarry (s.opnd o) s.fc
  advance 1 s ((s.setOpnd o r.value).setFlags r.z r.n r.h r.c)

/-! ### The instructions -/

/-- INC B, 0x04 (R158). -/
def execIncB (s : State) : Out := inc8 (.reg .b) s

/-- DEC B, 0x05 (R160). -/
def execDecB (s : State) : Out := dec8 (.reg .b) s

/-- INC C, 0x0C (R158). -/
def execIncC (s : State) : Out := inc8 (.reg .c) s

/-- DEC C, 0x0D (R160). -/
def execDecC (s : State) : Out := dec8 (.reg .c) s

/-- INC D, 0x14 (R158). -/
def execIncD (s : State) : Out := inc8 (.reg .d) s

/-- DEC D, 0x15 (R160). -/
def execDecD (s : State) : Out := dec8 (.reg .d) s

/-- INC E, 0x1C (R158). -/
def execIncE (s : State) : Out := inc8 (.reg .e) s

/-- DEC E, 0x1D (R160). -/
def execDecE (s : State) : Out := dec8 (.reg .e) s

/-- INC H, 0x24 (R158). -/
def execIncH (s : State) : Out := inc8 (.reg .h) s

/-- DEC H, 0x25 (R160). -/
def execDecH (s : State) : Out := dec8 (.reg .h) s

/-- INC L, 0x2C (R158). -/
def execIncL (s : State) : Out := inc8 (.reg .l) s

/-- DEC L, 0x2D (R160). -/
def execDecL (s : State) : Out := dec8 (.reg .l) s

/-- INC (HL), 0x34 (R159). -/
def execIncIndHl (s : State) : Out := inc8 .indHl s

/-- DEC (HL), 0x35 (R161). -/
def execDecIndHl (s : State) : Out := dec8 .indHl s

/-- INC A, 0x3C (R158). -/
def execIncA (s : State) : Out := inc8 (.reg .a) s

/-- DEC A, 0x3D (R160). -/
def execDecA (s : State) : Out := dec8 (.reg .a) s

/-- ADD A,B, 0x80 (R133). -/
def execAddAB (s : State) : Out := alu8 .add (.reg .b) s

/-- ADD A,C, 0x81 (R133). -/
def execAddAC (s : State) : Out := alu8 .add (.reg .c) s

/-- ADD A,D, 0x82 (R133). -/
def execAddAD (s : State) : Out := alu8 .add (.reg .d) s

/-- ADD A,E, 0x83 (R133). -/
def execAddAE (s : State) : Out := alu8 .add (.reg .e) s

/-- ADD A,H, 0x84 (R133). -/
def execAddAH (s : State) : Out := alu8 .add (.reg .h) s

/-- ADD A,L, 0x85 (R133). -/
def execAddAL (s : State) : Out := alu8 .add (.reg .l) s

/-- ADD A,(HL), 0x86 (R134). -/
def execAddAIndHl (s : State) : Out := alu8 .add .indHl s

/-- ADD A,A, 0x87 (R133). -/
def execAddAA (s : State) : Out := alu8 .add (.reg .a) s

/-- ADC A,B, 0x88 (R136). -/
def execAdcAB (s : State) : Out := alu8 .adc (.reg .b) s

/-- ADC A,C, 0x89 (R136). -/
def execAdcAC (s : State) : Out := alu8 .adc (.reg .c) s

/-- ADC A,D, 0x8A (R136). -/
def execAdcAD (s : State) : Out := alu8 .adc (.reg .d) s

/-- ADC A,E, 0x8B (R136). -/
def execAdcAE (s : State) : Out := alu8 .adc (.reg .e) s

/-- ADC A,H, 0x8C (R136). -/
def execAdcAH (s : State) : Out := alu8 .adc (.reg .h) s

/-- ADC A,L, 0x8D (R136). -/
def execAdcAL (s : State) : Out := alu8 .adc (.reg .l) s

/-- ADC A,(HL), 0x8E (R137). -/
def execAdcAIndHl (s : State) : Out := alu8 .adc .indHl s

/-- ADC A,A, 0x8F (R136). -/
def execAdcAA (s : State) : Out := alu8 .adc (.reg .a) s

/-- SUB B, 0x90 (R139). -/
def execSubB (s : State) : Out := alu8 .sub (.reg .b) s

/-- SUB C, 0x91 (R139). -/
def execSubC (s : State) : Out := alu8 .sub (.reg .c) s

/-- SUB D, 0x92 (R139). -/
def execSubD (s : State) : Out := alu8 .sub (.reg .d) s

/-- SUB E, 0x93 (R139). -/
def execSubE (s : State) : Out := alu8 .sub (.reg .e) s

/-- SUB H, 0x94 (R139). -/
def execSubH (s : State) : Out := alu8 .sub (.reg .h) s

/-- SUB L, 0x95 (R139). -/
def execSubL (s : State) : Out := alu8 .sub (.reg .l) s

/-- SUB (HL), 0x96 (R140). -/
def execSubIndHl (s : State) : Out := alu8 .sub .indHl s

/-- SUB A, 0x97 (R139). -/
def execSubA (s : State) : Out := alu8 .sub (.reg .a) s

/-- SBC A,B, 0x98 (R142). -/
def execSbcAB (s : State) : Out := alu8 .sbc (.reg .b) s

/-- SBC A,C, 0x99 (R142). -/
def execSbcAC (s : State) : Out := alu8 .sbc (.reg .c) s

/-- SBC A,D, 0x9A (R142). -/
def execSbcAD (s : State) : Out := alu8 .sbc (.reg .d) s

/-- SBC A,E, 0x9B (R142). -/
def execSbcAE (s : State) : Out := alu8 .sbc (.reg .e) s

/-- SBC A,H, 0x9C (R142). -/
def execSbcAH (s : State) : Out := alu8 .sbc (.reg .h) s

/-- SBC A,L, 0x9D (R142). -/
def execSbcAL (s : State) : Out := alu8 .sbc (.reg .l) s

/-- SBC A,(HL), 0x9E (R143). -/
def execSbcAIndHl (s : State) : Out := alu8 .sbc .indHl s

/-- SBC A,A, 0x9F (R142). -/
def execSbcAA (s : State) : Out := alu8 .sbc (.reg .a) s

/-- AND B, 0xA0 (R145). -/
def execAndB (s : State) : Out := alu8 .and (.reg .b) s

/-- AND C, 0xA1 (R145). -/
def execAndC (s : State) : Out := alu8 .and (.reg .c) s

/-- AND D, 0xA2 (R145). -/
def execAndD (s : State) : Out := alu8 .and (.reg .d) s

/-- AND E, 0xA3 (R145). -/
def execAndE (s : State) : Out := alu8 .and (.reg .e) s

/-- AND H, 0xA4 (R145). -/
def execAndH (s : State) : Out := alu8 .and (.reg .h) s

/-- AND L, 0xA5 (R145). -/
def execAndL (s : State) : Out := alu8 .and (.reg .l) s

/-- AND (HL), 0xA6 (R146). -/
def execAndIndHl (s : State) : Out := alu8 .and .indHl s

/-- AND A, 0xA7 (R145). -/
def execAndA (s : State) : Out := alu8 .and (.reg .a) s

/-- XOR B, 0xA8 (R148). -/
def execXorB (s : State) : Out := alu8 .xor (.reg .b) s

/-- XOR C, 0xA9 (R148). -/
def execXorC (s : State) : Out := alu8 .xor (.reg .c) s

/-- XOR D, 0xAA (R148). -/
def execXorD (s : State) : Out := alu8 .xor (.reg .d) s

/-- XOR E, 0xAB (R148). -/
def execXorE (s : State) : Out := alu8 .xor (.reg .e) s

/-- XOR H, 0xAC (R148). -/
def execXorH (s : State) : Out := alu8 .xor (.reg .h) s

/-- XOR L, 0xAD (R148). -/
def execXorL (s : State) : Out := alu8 .xor (.reg .l) s

/-- XOR (HL), 0xAE (R149). -/
def execXorIndHl (s : State) : Out := alu8 .xor .indHl s

/-- XOR A, 0xAF (R148). -/
def execXorA (s : State) : Out := alu8 .xor (.reg .a) s

/-- OR B, 0xB0 (R151). -/
def execOrB (s : State) : Out := alu8 .or (.reg .b) s

/-- OR C, 0xB1 (R151). -/
def execOrC (s : State) : Out := alu8 .or (.reg .c) s

/-- OR D, 0xB2 (R151). -/
def execOrD (s : State) : Out := alu8 .or (.reg .d) s

/-- OR E, 0xB3 (R151). -/
def execOrE (s : State) : Out := alu8 .or (.reg .e) s

/-- OR H, 0xB4 (R151). -/
def execOrH (s : State) : Out := alu8 .or (.reg .h) s

/-- OR L, 0xB5 (R151). -/
def execOrL (s : State) : Out := alu8 .or (.reg .l) s

/-- OR (HL), 0xB6 (R152). -/
def execOrIndHl (s : State) : Out := alu8 .or .indHl s

/-- OR A, 0xB7 (R151). -/
def execOrA (s : State) : Out := alu8 .or (.reg .a) s

/-- CP B, 0xB8 (R154). -/
def execCpB (s : State) : Out := alu8 .cp (.reg .b) s

/-- CP C, 0xB9 (R154). -/
def execCpC (s : State) : Out := alu8 .cp (.reg .c) s

/-- CP D, 0xBA (R154). -/
def execCpD (s : State) : Out := alu8 .cp (.reg .d) s

/-- CP E, 0xBB (R154). -/
def execCpE (s : State) : Out := alu8 .cp (.reg .e) s

/-- CP H, 0xBC (R154). -/
def execCpH (s : State) : Out := alu8 .cp (.reg .h) s

/-- CP L, 0xBD (R154). -/
def execCpL (s : State) : Out := alu8 .cp (.reg .l) s

/-- CP (HL), 0xBE (R155). -/
def execCpIndHl (s : State) : Out := alu8 .cp .indHl s

/-- CP A, 0xBF (R154). -/
def execCpA (s : State) : Out := alu8 .cp (.reg .a) s

/-- ADD A,d8, 0xC6 (R135). -/
def execAddAD8 (n : Byte) (s : State) : Out := alu8 .add (.imm n) s

/-- ADC A,d8, 0xCE (R138). -/
def execAdcAD8 (n : Byte) (s : State) : Out := alu8 .adc (.imm n) s

/-- SUB d8, 0xD6 (R141). -/
def execSubD8 (n : Byte) (s : State) : Out := alu8 .sub (.imm n) s

/-- SBC A,d8, 0xDE (R144). -/
def execSbcAD8 (n : Byte) (s : State) : Out := alu8 .sbc (.imm n) s

/-- AND d8, 0xE6 (R147). -/
def execAndD8 (n : Byte) (s : State) : Out := alu8 .and (.imm n) s

/-- XOR d8, 0xEE (R150). -/
def execXorD8 (n : Byte) (s : State) : Out := alu8 .xor (.imm n) s

/-- OR d8, 0xF6 (R153). -/
def execOrD8 (n : Byte) (s : State) : Out := alu8 .or (.imm n) s

/-- CP d8, 0xFE (R156). -/
def execCpD8 (n : Byte) (s : State) : Out := alu8 .cp (.imm n) s

end Sys2Proof.Machine
end

