-- ==== Sys2Proof/Machine/AluMisc.lean ====
section
/-! DEFINITION. Rotates of A, DAA, CPL, SCF, CCF (spec/42_alu_misc.md R170 to R177). -/

namespace Sys2Proof.Machine

/-- A rotate of A: Z is always cleared (R170 to R173). -/
def rotateA (op : RotA) (s : State) : Out :=
  let r := rotAResult op s.a s.fc
  advance 1 s ({ s with a := r.1 }.setFlags false false false r.2)

/-- DAA (R174). -/
def adjustA (s : State) : Out :=
  let r := daaResult s.a s.fn s.fh s.fc
  advance 1 s ({ s with a := r.1 }.setFlags (r.1 == 0) s.fn false r.2)

/-! ### The instructions -/

/-- RLCA, 0x07 (R170). -/
def execRlca (s : State) : Out := rotateA .rlca s

/-- RRCA, 0x0F (R171). -/
def execRrca (s : State) : Out := rotateA .rrca s

/-- RLA, 0x17 (R172). -/
def execRla (s : State) : Out := rotateA .rla s

/-- RRA, 0x1F (R173). -/
def execRra (s : State) : Out := rotateA .rra s

/-- DAA, 0x27 (R174). -/
def execDaa (s : State) : Out := adjustA s

/-- CPL, 0x2F (R175). -/
def execCpl (s : State) : Out := advance 1 s ({ s with a := ~~~s.a }.setFlags s.fz true true s.fc)

/-- SCF, 0x37 (R176). -/
def execScf (s : State) : Out := advance 1 s (s.setFlags s.fz false false true)

/-- CCF, 0x3F (R177). -/
def execCcf (s : State) : Out := advance 1 s (s.setFlags s.fz false false (!s.fc))

end Sys2Proof.Machine
end

