-- ==== Sys2Proof/Machine/Cb.lean ====
section
/-! DEFINITION. The 0xCB prefix and the CB map (spec/40_dispatch.md R109, spec/47_cb_prefix.md R280 to R291). -/

namespace Sys2Proof.Machine

/-- RLC to SRL on a register or on the byte at HL (R281 to R288). -/
def shift8 (op : ShiftOp) (o : Opnd8) (s : State) : Out :=
  let r := shiftResult op (s.opnd o) s.fc
  advance 2 s ((s.setOpnd o r.1).setFlags (r.1 == 0) false false r.2)

/-- BIT b,r: the operand is only read, C is kept (R289). -/
def bit8 (b : Idx8) (o : Opnd8) (s : State) : Out :=
  advance 2 s (s.setFlags (!(s.opnd o).getLsbD b.val) false true s.fc)

/-- RES b,r (R290). -/
def res8 (b : Idx8) (o : Opnd8) (s : State) : Out :=
  advance 2 s (s.setOpnd o (s.opnd o &&& ~~~((1 : Byte) <<< b.val)))

/-- SET b,r (R291). -/
def set8 (b : Idx8) (o : Opnd8) (s : State) : Out :=
  advance 2 s (s.setOpnd o (s.opnd o ||| (1 : Byte) <<< b.val))

/-- `CB_TABLE[op2].handler` (R109), selected by the fields of op2 (R280). -/
def cbTable (op2 : Byte) (s : State) : Out :=
  match xField op2 with
  | .i0 => shift8 (shiftOp (yField op2)) (opnd8 (zField op2)) s
  | .i1 => bit8 (yField op2) (opnd8 (zField op2)) s
  | .i2 => res8 (yField op2) (opnd8 (zField op2)) s
  | .i3 => set8 (yField op2) (opnd8 (zField op2)) s

/-- The row 0xCB of the first-byte map (R109). -/
def cbPrefix (op2 : Byte) (s : State) : Out :=
  match s.params.cbPrefix with
  | .refuse => refuse .cbPrefixRefused s
  | .execute => cbTable op2 s

/-! ### The instructions -/

/-- PREFIX CB, 0xCB (R109). -/
def execPrefixCb (op2 : Byte) (s : State) : Out := cbPrefix op2 s

/-- RLC B, 0xCB 0x00 (R281). -/
def execRlcB (s : State) : Out := shift8 .rlc (.reg .b) s

/-- RLC C, 0xCB 0x01 (R281). -/
def execRlcC (s : State) : Out := shift8 .rlc (.reg .c) s

/-- RLC D, 0xCB 0x02 (R281). -/
def execRlcD (s : State) : Out := shift8 .rlc (.reg .d) s

/-- RLC E, 0xCB 0x03 (R281). -/
def execRlcE (s : State) : Out := shift8 .rlc (.reg .e) s

/-- RLC H, 0xCB 0x04 (R281). -/
def execRlcH (s : State) : Out := shift8 .rlc (.reg .h) s

/-- RLC L, 0xCB 0x05 (R281). -/
def execRlcL (s : State) : Out := shift8 .rlc (.reg .l) s

/-- RLC (HL), 0xCB 0x06 (R281). -/
def execRlcIndHl (s : State) : Out := shift8 .rlc .indHl s

/-- RLC A, 0xCB 0x07 (R281). -/
def execRlcA (s : State) : Out := shift8 .rlc (.reg .a) s

/-- RRC B, 0xCB 0x08 (R282). -/
def execRrcB (s : State) : Out := shift8 .rrc (.reg .b) s

/-- RRC C, 0xCB 0x09 (R282). -/
def execRrcC (s : State) : Out := shift8 .rrc (.reg .c) s

/-- RRC D, 0xCB 0x0A (R282). -/
def execRrcD (s : State) : Out := shift8 .rrc (.reg .d) s

/-- RRC E, 0xCB 0x0B (R282). -/
def execRrcE (s : State) : Out := shift8 .rrc (.reg .e) s

/-- RRC H, 0xCB 0x0C (R282). -/
def execRrcH (s : State) : Out := shift8 .rrc (.reg .h) s

/-- RRC L, 0xCB 0x0D (R282). -/
def execRrcL (s : State) : Out := shift8 .rrc (.reg .l) s

/-- RRC (HL), 0xCB 0x0E (R282). -/
def execRrcIndHl (s : State) : Out := shift8 .rrc .indHl s

/-- RRC A, 0xCB 0x0F (R282). -/
def execRrcA (s : State) : Out := shift8 .rrc (.reg .a) s

/-- RL B, 0xCB 0x10 (R283). -/
def execRlB (s : State) : Out := shift8 .rl (.reg .b) s

/-- RL C, 0xCB 0x11 (R283). -/
def execRlC (s : State) : Out := shift8 .rl (.reg .c) s

/-- RL D, 0xCB 0x12 (R283). -/
def execRlD (s : State) : Out := shift8 .rl (.reg .d) s

/-- RL E, 0xCB 0x13 (R283). -/
def execRlE (s : State) : Out := shift8 .rl (.reg .e) s

/-- RL H, 0xCB 0x14 (R283). -/
def execRlH (s : State) : Out := shift8 .rl (.reg .h) s

/-- RL L, 0xCB 0x15 (R283). -/
def execRlL (s : State) : Out := shift8 .rl (.reg .l) s

/-- RL (HL), 0xCB 0x16 (R283). -/
def execRlIndHl (s : State) : Out := shift8 .rl .indHl s

/-- RL A, 0xCB 0x17 (R283). -/
def execRlA (s : State) : Out := shift8 .rl (.reg .a) s

/-- RR B, 0xCB 0x18 (R284). -/
def execRrB (s : State) : Out := shift8 .rr (.reg .b) s

/-- RR C, 0xCB 0x19 (R284). -/
def execRrC (s : State) : Out := shift8 .rr (.reg .c) s

/-- RR D, 0xCB 0x1A (R284). -/
def execRrD (s : State) : Out := shift8 .rr (.reg .d) s

/-- RR E, 0xCB 0x1B (R284). -/
def execRrE (s : State) : Out := shift8 .rr (.reg .e) s

/-- RR H, 0xCB 0x1C (R284). -/
def execRrH (s : State) : Out := shift8 .rr (.reg .h) s

/-- RR L, 0xCB 0x1D (R284). -/
def execRrL (s : State) : Out := shift8 .rr (.reg .l) s

/-- RR (HL), 0xCB 0x1E (R284). -/
def execRrIndHl (s : State) : Out := shift8 .rr .indHl s

/-- RR A, 0xCB 0x1F (R284). -/
def execRrA (s : State) : Out := shift8 .rr (.reg .a) s

/-- SLA B, 0xCB 0x20 (R285). -/
def execSlaB (s : State) : Out := shift8 .sla (.reg .b) s

/-- SLA C, 0xCB 0x21 (R285). -/
def execSlaC (s : State) : Out := shift8 .sla (.reg .c) s

/-- SLA D, 0xCB 0x22 (R285). -/
def execSlaD (s : State) : Out := shift8 .sla (.reg .d) s

/-- SLA E, 0xCB 0x23 (R285). -/
def execSlaE (s : State) : Out := shift8 .sla (.reg .e) s

/-- SLA H, 0xCB 0x24 (R285). -/
def execSlaH (s : State) : Out := shift8 .sla (.reg .h) s

/-- SLA L, 0xCB 0x25 (R285). -/
def execSlaL (s : State) : Out := shift8 .sla (.reg .l) s

/-- SLA (HL), 0xCB 0x26 (R285). -/
def execSlaIndHl (s : State) : Out := shift8 .sla .indHl s

/-- SLA A, 0xCB 0x27 (R285). -/
def execSlaA (s : State) : Out := shift8 .sla (.reg .a) s

/-- SRA B, 0xCB 0x28 (R286). -/
def execSraB (s : State) : Out := shift8 .sra (.reg .b) s

/-- SRA C, 0xCB 0x29 (R286). -/
def execSraC (s : State) : Out := shift8 .sra (.reg .c) s

/-- SRA D, 0xCB 0x2A (R286). -/
def execSraD (s : State) : Out := shift8 .sra (.reg .d) s

/-- SRA E, 0xCB 0x2B (R286). -/
def execSraE (s : State) : Out := shift8 .sra (.reg .e) s

/-- SRA H, 0xCB 0x2C (R286). -/
def execSraH (s : State) : Out := shift8 .sra (.reg .h) s

/-- SRA L, 0xCB 0x2D (R286). -/
def execSraL (s : State) : Out := shift8 .sra (.reg .l) s

/-- SRA (HL), 0xCB 0x2E (R286). -/
def execSraIndHl (s : State) : Out := shift8 .sra .indHl s

/-- SRA A, 0xCB 0x2F (R286). -/
def execSraA (s : State) : Out := shift8 .sra (.reg .a) s

/-- SWAP B, 0xCB 0x30 (R287). -/
def execSwapB (s : State) : Out := shift8 .swap (.reg .b) s

/-- SWAP C, 0xCB 0x31 (R287). -/
def execSwapC (s : State) : Out := shift8 .swap (.reg .c) s

/-- SWAP D, 0xCB 0x32 (R287). -/
def execSwapD (s : State) : Out := shift8 .swap (.reg .d) s

/-- SWAP E, 0xCB 0x33 (R287). -/
def execSwapE (s : State) : Out := shift8 .swap (.reg .e) s

/-- SWAP H, 0xCB 0x34 (R287). -/
def execSwapH (s : State) : Out := shift8 .swap (.reg .h) s

/-- SWAP L, 0xCB 0x35 (R287). -/
def execSwapL (s : State) : Out := shift8 .swap (.reg .l) s

/-- SWAP (HL), 0xCB 0x36 (R287). -/
def execSwapIndHl (s : State) : Out := shift8 .swap .indHl s

/-- SWAP A, 0xCB 0x37 (R287). -/
def execSwapA (s : State) : Out := shift8 .swap (.reg .a) s

/-- SRL B, 0xCB 0x38 (R288). -/
def execSrlB (s : State) : Out := shift8 .srl (.reg .b) s

/-- SRL C, 0xCB 0x39 (R288). -/
def execSrlC (s : State) : Out := shift8 .srl (.reg .c) s

/-- SRL D, 0xCB 0x3A (R288). -/
def execSrlD (s : State) : Out := shift8 .srl (.reg .d) s

/-- SRL E, 0xCB 0x3B (R288). -/
def execSrlE (s : State) : Out := shift8 .srl (.reg .e) s

/-- SRL H, 0xCB 0x3C (R288). -/
def execSrlH (s : State) : Out := shift8 .srl (.reg .h) s

/-- SRL L, 0xCB 0x3D (R288). -/
def execSrlL (s : State) : Out := shift8 .srl (.reg .l) s

/-- SRL (HL), 0xCB 0x3E (R288). -/
def execSrlIndHl (s : State) : Out := shift8 .srl .indHl s

/-- SRL A, 0xCB 0x3F (R288). -/
def execSrlA (s : State) : Out := shift8 .srl (.reg .a) s

/-- BIT 0,B, 0xCB 0x40 (R289). -/
def execBit0B (s : State) : Out := bit8 .i0 (.reg .b) s

/-- BIT 0,C, 0xCB 0x41 (R289). -/
def execBit0C (s : State) : Out := bit8 .i0 (.reg .c) s

/-- BIT 0,D, 0xCB 0x42 (R289). -/
def execBit0D (s : State) : Out := bit8 .i0 (.reg .d) s

/-- BIT 0,E, 0xCB 0x43 (R289). -/
def execBit0E (s : State) : Out := bit8 .i0 (.reg .e) s

/-- BIT 0,H, 0xCB 0x44 (R289). -/
def execBit0H (s : State) : Out := bit8 .i0 (.reg .h) s

/-- BIT 0,L, 0xCB 0x45 (R289). -/
def execBit0L (s : State) : Out := bit8 .i0 (.reg .l) s

/-- BIT 0,(HL), 0xCB 0x46 (R289). -/
def execBit0IndHl (s : State) : Out := bit8 .i0 .indHl s

/-- BIT 0,A, 0xCB 0x47 (R289). -/
def execBit0A (s : State) : Out := bit8 .i0 (.reg .a) s

/-- BIT 1,B, 0xCB 0x48 (R289). -/
def execBit1B (s : State) : Out := bit8 .i1 (.reg .b) s

/-- BIT 1,C, 0xCB 0x49 (R289). -/
def execBit1C (s : State) : Out := bit8 .i1 (.reg .c) s

/-- BIT 1,D, 0xCB 0x4A (R289). -/
def execBit1D (s : State) : Out := bit8 .i1 (.reg .d) s

/-- BIT 1,E, 0xCB 0x4B (R289). -/
def execBit1E (s : State) : Out := bit8 .i1 (.reg .e) s

/-- BIT 1,H, 0xCB 0x4C (R289). -/
def execBit1H (s : State) : Out := bit8 .i1 (.reg .h) s

/-- BIT 1,L, 0xCB 0x4D (R289). -/
def execBit1L (s : State) : Out := bit8 .i1 (.reg .l) s

/-- BIT 1,(HL), 0xCB 0x4E (R289). -/
def execBit1IndHl (s : State) : Out := bit8 .i1 .indHl s

/-- BIT 1,A, 0xCB 0x4F (R289). -/
def execBit1A (s : State) : Out := bit8 .i1 (.reg .a) s

/-- BIT 2,B, 0xCB 0x50 (R289). -/
def execBit2B (s : State) : Out := bit8 .i2 (.reg .b) s

/-- BIT 2,C, 0xCB 0x51 (R289). -/
def execBit2C (s : State) : Out := bit8 .i2 (.reg .c) s

/-- BIT 2,D, 0xCB 0x52 (R289). -/
def execBit2D (s : State) : Out := bit8 .i2 (.reg .d) s

/-- BIT 2,E, 0xCB 0x53 (R289). -/
def execBit2E (s : State) : Out := bit8 .i2 (.reg .e) s

/-- BIT 2,H, 0xCB 0x54 (R289). -/
def execBit2H (s : State) : Out := bit8 .i2 (.reg .h) s

/-- BIT 2,L, 0xCB 0x55 (R289). -/
def execBit2L (s : State) : Out := bit8 .i2 (.reg .l) s

/-- BIT 2,(HL), 0xCB 0x56 (R289). -/
def execBit2IndHl (s : State) : Out := bit8 .i2 .indHl s

/-- BIT 2,A, 0xCB 0x57 (R289). -/
def execBit2A (s : State) : Out := bit8 .i2 (.reg .a) s

/-- BIT 3,B, 0xCB 0x58 (R289). -/
def execBit3B (s : State) : Out := bit8 .i3 (.reg .b) s

/-- BIT 3,C, 0xCB 0x59 (R289). -/
def execBit3C (s : State) : Out := bit8 .i3 (.reg .c) s

/-- BIT 3,D, 0xCB 0x5A (R289). -/
def execBit3D (s : State) : Out := bit8 .i3 (.reg .d) s

/-- BIT 3,E, 0xCB 0x5B (R289). -/
def execBit3E (s : State) : Out := bit8 .i3 (.reg .e) s

/-- BIT 3,H, 0xCB 0x5C (R289). -/
def execBit3H (s : State) : Out := bit8 .i3 (.reg .h) s

/-- BIT 3,L, 0xCB 0x5D (R289). -/
def execBit3L (s : State) : Out := bit8 .i3 (.reg .l) s

/-- BIT 3,(HL), 0xCB 0x5E (R289). -/
def execBit3IndHl (s : State) : Out := bit8 .i3 .indHl s

/-- BIT 3,A, 0xCB 0x5F (R289). -/
def execBit3A (s : State) : Out := bit8 .i3 (.reg .a) s

/-- BIT 4,B, 0xCB 0x60 (R289). -/
def execBit4B (s : State) : Out := bit8 .i4 (.reg .b) s

/-- BIT 4,C, 0xCB 0x61 (R289). -/
def execBit4C (s : State) : Out := bit8 .i4 (.reg .c) s

/-- BIT 4,D, 0xCB 0x62 (R289). -/
def execBit4D (s : State) : Out := bit8 .i4 (.reg .d) s

/-- BIT 4,E, 0xCB 0x63 (R289). -/
def execBit4E (s : State) : Out := bit8 .i4 (.reg .e) s

/-- BIT 4,H, 0xCB 0x64 (R289). -/
def execBit4H (s : State) : Out := bit8 .i4 (.reg .h) s

/-- BIT 4,L, 0xCB 0x65 (R289). -/
def execBit4L (s : State) : Out := bit8 .i4 (.reg .l) s

/-- BIT 4,(HL), 0xCB 0x66 (R289). -/
def execBit4IndHl (s : State) : Out := bit8 .i4 .indHl s

/-- BIT 4,A, 0xCB 0x67 (R289). -/
def execBit4A (s : State) : Out := bit8 .i4 (.reg .a) s

/-- BIT 5,B, 0xCB 0x68 (R289). -/
def execBit5B (s : State) : Out := bit8 .i5 (.reg .b) s

/-- BIT 5,C, 0xCB 0x69 (R289). -/
def execBit5C (s : State) : Out := bit8 .i5 (.reg .c) s

/-- BIT 5,D, 0xCB 0x6A (R289). -/
def execBit5D (s : State) : Out := bit8 .i5 (.reg .d) s

/-- BIT 5,E, 0xCB 0x6B (R289). -/
def execBit5E (s : State) : Out := bit8 .i5 (.reg .e) s

/-- BIT 5,H, 0xCB 0x6C (R289). -/
def execBit5H (s : State) : Out := bit8 .i5 (.reg .h) s

/-- BIT 5,L, 0xCB 0x6D (R289). -/
def execBit5L (s : State) : Out := bit8 .i5 (.reg .l) s

/-- BIT 5,(HL), 0xCB 0x6E (R289). -/
def execBit5IndHl (s : State) : Out := bit8 .i5 .indHl s

/-- BIT 5,A, 0xCB 0x6F (R289). -/
def execBit5A (s : State) : Out := bit8 .i5 (.reg .a) s

/-- BIT 6,B, 0xCB 0x70 (R289). -/
def execBit6B (s : State) : Out := bit8 .i6 (.reg .b) s

/-- BIT 6,C, 0xCB 0x71 (R289). -/
def execBit6C (s : State) : Out := bit8 .i6 (.reg .c) s

/-- BIT 6,D, 0xCB 0x72 (R289). -/
def execBit6D (s : State) : Out := bit8 .i6 (.reg .d) s

/-- BIT 6,E, 0xCB 0x73 (R289). -/
def execBit6E (s : State) : Out := bit8 .i6 (.reg .e) s

/-- BIT 6,H, 0xCB 0x74 (R289). -/
def execBit6H (s : State) : Out := bit8 .i6 (.reg .h) s

/-- BIT 6,L, 0xCB 0x75 (R289). -/
def execBit6L (s : State) : Out := bit8 .i6 (.reg .l) s

/-- BIT 6,(HL), 0xCB 0x76 (R289). -/
def execBit6IndHl (s : State) : Out := bit8 .i6 .indHl s

/-- BIT 6,A, 0xCB 0x77 (R289). -/
def execBit6A (s : State) : Out := bit8 .i6 (.reg .a) s

/-- BIT 7,B, 0xCB 0x78 (R289). -/
def execBit7B (s : State) : Out := bit8 .i7 (.reg .b) s

/-- BIT 7,C, 0xCB 0x79 (R289). -/
def execBit7C (s : State) : Out := bit8 .i7 (.reg .c) s

/-- BIT 7,D, 0xCB 0x7A (R289). -/
def execBit7D (s : State) : Out := bit8 .i7 (.reg .d) s

/-- BIT 7,E, 0xCB 0x7B (R289). -/
def execBit7E (s : State) : Out := bit8 .i7 (.reg .e) s

/-- BIT 7,H, 0xCB 0x7C (R289). -/
def execBit7H (s : State) : Out := bit8 .i7 (.reg .h) s

/-- BIT 7,L, 0xCB 0x7D (R289). -/
def execBit7L (s : State) : Out := bit8 .i7 (.reg .l) s

/-- BIT 7,(HL), 0xCB 0x7E (R289). -/
def execBit7IndHl (s : State) : Out := bit8 .i7 .indHl s

/-- BIT 7,A, 0xCB 0x7F (R289). -/
def execBit7A (s : State) : Out := bit8 .i7 (.reg .a) s

/-- RES 0,B, 0xCB 0x80 (R290). -/
def execRes0B (s : State) : Out := res8 .i0 (.reg .b) s

/-- RES 0,C, 0xCB 0x81 (R290). -/
def execRes0C (s : State) : Out := res8 .i0 (.reg .c) s

/-- RES 0,D, 0xCB 0x82 (R290). -/
def execRes0D (s : State) : Out := res8 .i0 (.reg .d) s

/-- RES 0,E, 0xCB 0x83 (R290). -/
def execRes0E (s : State) : Out := res8 .i0 (.reg .e) s

/-- RES 0,H, 0xCB 0x84 (R290). -/
def execRes0H (s : State) : Out := res8 .i0 (.reg .h) s

/-- RES 0,L, 0xCB 0x85 (R290). -/
def execRes0L (s : State) : Out := res8 .i0 (.reg .l) s

/-- RES 0,(HL), 0xCB 0x86 (R290). -/
def execRes0IndHl (s : State) : Out := res8 .i0 .indHl s

/-- RES 0,A, 0xCB 0x87 (R290). -/
def execRes0A (s : State) : Out := res8 .i0 (.reg .a) s

/-- RES 1,B, 0xCB 0x88 (R290). -/
def execRes1B (s : State) : Out := res8 .i1 (.reg .b) s

/-- RES 1,C, 0xCB 0x89 (R290). -/
def execRes1C (s : State) : Out := res8 .i1 (.reg .c) s

/-- RES 1,D, 0xCB 0x8A (R290). -/
def execRes1D (s : State) : Out := res8 .i1 (.reg .d) s

/-- RES 1,E, 0xCB 0x8B (R290). -/
def execRes1E (s : State) : Out := res8 .i1 (.reg .e) s

/-- RES 1,H, 0xCB 0x8C (R290). -/
def execRes1H (s : State) : Out := res8 .i1 (.reg .h) s

/-- RES 1,L, 0xCB 0x8D (R290). -/
def execRes1L (s : State) : Out := res8 .i1 (.reg .l) s

/-- RES 1,(HL), 0xCB 0x8E (R290). -/
def execRes1IndHl (s : State) : Out := res8 .i1 .indHl s

/-- RES 1,A, 0xCB 0x8F (R290). -/
def execRes1A (s : State) : Out := res8 .i1 (.reg .a) s

/-- RES 2,B, 0xCB 0x90 (R290). -/
def execRes2B (s : State) : Out := res8 .i2 (.reg .b) s

/-- RES 2,C, 0xCB 0x91 (R290). -/
def execRes2C (s : State) : Out := res8 .i2 (.reg .c) s

/-- RES 2,D, 0xCB 0x92 (R290). -/
def execRes2D (s : State) : Out := res8 .i2 (.reg .d) s

/-- RES 2,E, 0xCB 0x93 (R290). -/
def execRes2E (s : State) : Out := res8 .i2 (.reg .e) s

/-- RES 2,H, 0xCB 0x94 (R290). -/
def execRes2H (s : State) : Out := res8 .i2 (.reg .h) s

/-- RES 2,L, 0xCB 0x95 (R290). -/
def execRes2L (s : State) : Out := res8 .i2 (.reg .l) s

/-- RES 2,(HL), 0xCB 0x96 (R290). -/
def execRes2IndHl (s : State) : Out := res8 .i2 .indHl s

/-- RES 2,A, 0xCB 0x97 (R290). -/
def execRes2A (s : State) : Out := res8 .i2 (.reg .a) s

/-- RES 3,B, 0xCB 0x98 (R290). -/
def execRes3B (s : State) : Out := res8 .i3 (.reg .b) s

/-- RES 3,C, 0xCB 0x99 (R290). -/
def execRes3C (s : State) : Out := res8 .i3 (.reg .c) s

/-- RES 3,D, 0xCB 0x9A (R290). -/
def execRes3D (s : State) : Out := res8 .i3 (.reg .d) s

/-- RES 3,E, 0xCB 0x9B (R290). -/
def execRes3E (s : State) : Out := res8 .i3 (.reg .e) s

/-- RES 3,H, 0xCB 0x9C (R290). -/
def execRes3H (s : State) : Out := res8 .i3 (.reg .h) s

/-- RES 3,L, 0xCB 0x9D (R290). -/
def execRes3L (s : State) : Out := res8 .i3 (.reg .l) s

/-- RES 3,(HL), 0xCB 0x9E (R290). -/
def execRes3IndHl (s : State) : Out := res8 .i3 .indHl s

/-- RES 3,A, 0xCB 0x9F (R290). -/
def execRes3A (s : State) : Out := res8 .i3 (.reg .a) s

/-- RES 4,B, 0xCB 0xA0 (R290). -/
def execRes4B (s : State) : Out := res8 .i4 (.reg .b) s

/-- RES 4,C, 0xCB 0xA1 (R290). -/
def execRes4C (s : State) : Out := res8 .i4 (.reg .c) s

/-- RES 4,D, 0xCB 0xA2 (R290). -/
def execRes4D (s : State) : Out := res8 .i4 (.reg .d) s

/-- RES 4,E, 0xCB 0xA3 (R290). -/
def execRes4E (s : State) : Out := res8 .i4 (.reg .e) s

/-- RES 4,H, 0xCB 0xA4 (R290). -/
def execRes4H (s : State) : Out := res8 .i4 (.reg .h) s

/-- RES 4,L, 0xCB 0xA5 (R290). -/
def execRes4L (s : State) : Out := res8 .i4 (.reg .l) s

/-- RES 4,(HL), 0xCB 0xA6 (R290). -/
def execRes4IndHl (s : State) : Out := res8 .i4 .indHl s

/-- RES 4,A, 0xCB 0xA7 (R290). -/
def execRes4A (s : State) : Out := res8 .i4 (.reg .a) s

/-- RES 5,B, 0xCB 0xA8 (R290). -/
def execRes5B (s : State) : Out := res8 .i5 (.reg .b) s

/-- RES 5,C, 0xCB 0xA9 (R290). -/
def execRes5C (s : State) : Out := res8 .i5 (.reg .c) s

/-- RES 5,D, 0xCB 0xAA (R290). -/
def execRes5D (s : State) : Out := res8 .i5 (.reg .d) s

/-- RES 5,E, 0xCB 0xAB (R290). -/
def execRes5E (s : State) : Out := res8 .i5 (.reg .e) s

/-- RES 5,H, 0xCB 0xAC (R290). -/
def execRes5H (s : State) : Out := res8 .i5 (.reg .h) s

/-- RES 5,L, 0xCB 0xAD (R290). -/
def execRes5L (s : State) : Out := res8 .i5 (.reg .l) s

/-- RES 5,(HL), 0xCB 0xAE (R290). -/
def execRes5IndHl (s : State) : Out := res8 .i5 .indHl s

/-- RES 5,A, 0xCB 0xAF (R290). -/
def execRes5A (s : State) : Out := res8 .i5 (.reg .a) s

/-- RES 6,B, 0xCB 0xB0 (R290). -/
def execRes6B (s : State) : Out := res8 .i6 (.reg .b) s

/-- RES 6,C, 0xCB 0xB1 (R290). -/
def execRes6C (s : State) : Out := res8 .i6 (.reg .c) s

/-- RES 6,D, 0xCB 0xB2 (R290). -/
def execRes6D (s : State) : Out := res8 .i6 (.reg .d) s

/-- RES 6,E, 0xCB 0xB3 (R290). -/
def execRes6E (s : State) : Out := res8 .i6 (.reg .e) s

/-- RES 6,H, 0xCB 0xB4 (R290). -/
def execRes6H (s : State) : Out := res8 .i6 (.reg .h) s

/-- RES 6,L, 0xCB 0xB5 (R290). -/
def execRes6L (s : State) : Out := res8 .i6 (.reg .l) s

/-- RES 6,(HL), 0xCB 0xB6 (R290). -/
def execRes6IndHl (s : State) : Out := res8 .i6 .indHl s

/-- RES 6,A, 0xCB 0xB7 (R290). -/
def execRes6A (s : State) : Out := res8 .i6 (.reg .a) s

/-- RES 7,B, 0xCB 0xB8 (R290). -/
def execRes7B (s : State) : Out := res8 .i7 (.reg .b) s

/-- RES 7,C, 0xCB 0xB9 (R290). -/
def execRes7C (s : State) : Out := res8 .i7 (.reg .c) s

/-- RES 7,D, 0xCB 0xBA (R290). -/
def execRes7D (s : State) : Out := res8 .i7 (.reg .d) s

/-- RES 7,E, 0xCB 0xBB (R290). -/
def execRes7E (s : State) : Out := res8 .i7 (.reg .e) s

/-- RES 7,H, 0xCB 0xBC (R290). -/
def execRes7H (s : State) : Out := res8 .i7 (.reg .h) s

/-- RES 7,L, 0xCB 0xBD (R290). -/
def execRes7L (s : State) : Out := res8 .i7 (.reg .l) s

/-- RES 7,(HL), 0xCB 0xBE (R290). -/
def execRes7IndHl (s : State) : Out := res8 .i7 .indHl s

/-- RES 7,A, 0xCB 0xBF (R290). -/
def execRes7A (s : State) : Out := res8 .i7 (.reg .a) s

/-- SET 0,B, 0xCB 0xC0 (R291). -/
def execSet0B (s : State) : Out := set8 .i0 (.reg .b) s

/-- SET 0,C, 0xCB 0xC1 (R291). -/
def execSet0C (s : State) : Out := set8 .i0 (.reg .c) s

/-- SET 0,D, 0xCB 0xC2 (R291). -/
def execSet0D (s : State) : Out := set8 .i0 (.reg .d) s

/-- SET 0,E, 0xCB 0xC3 (R291). -/
def execSet0E (s : State) : Out := set8 .i0 (.reg .e) s

/-- SET 0,H, 0xCB 0xC4 (R291). -/
def execSet0H (s : State) : Out := set8 .i0 (.reg .h) s

/-- SET 0,L, 0xCB 0xC5 (R291). -/
def execSet0L (s : State) : Out := set8 .i0 (.reg .l) s

/-- SET 0,(HL), 0xCB 0xC6 (R291). -/
def execSet0IndHl (s : State) : Out := set8 .i0 .indHl s

/-- SET 0,A, 0xCB 0xC7 (R291). -/
def execSet0A (s : State) : Out := set8 .i0 (.reg .a) s

/-- SET 1,B, 0xCB 0xC8 (R291). -/
def execSet1B (s : State) : Out := set8 .i1 (.reg .b) s

/-- SET 1,C, 0xCB 0xC9 (R291). -/
def execSet1C (s : State) : Out := set8 .i1 (.reg .c) s

/-- SET 1,D, 0xCB 0xCA (R291). -/
def execSet1D (s : State) : Out := set8 .i1 (.reg .d) s

/-- SET 1,E, 0xCB 0xCB (R291). -/
def execSet1E (s : State) : Out := set8 .i1 (.reg .e) s

/-- SET 1,H, 0xCB 0xCC (R291). -/
def execSet1H (s : State) : Out := set8 .i1 (.reg .h) s

/-- SET 1,L, 0xCB 0xCD (R291). -/
def execSet1L (s : State) : Out := set8 .i1 (.reg .l) s

/-- SET 1,(HL), 0xCB 0xCE (R291). -/
def execSet1IndHl (s : State) : Out := set8 .i1 .indHl s

/-- SET 1,A, 0xCB 0xCF (R291). -/
def execSet1A (s : State) : Out := set8 .i1 (.reg .a) s

/-- SET 2,B, 0xCB 0xD0 (R291). -/
def execSet2B (s : State) : Out := set8 .i2 (.reg .b) s

/-- SET 2,C, 0xCB 0xD1 (R291). -/
def execSet2C (s : State) : Out := set8 .i2 (.reg .c) s

/-- SET 2,D, 0xCB 0xD2 (R291). -/
def execSet2D (s : State) : Out := set8 .i2 (.reg .d) s

/-- SET 2,E, 0xCB 0xD3 (R291). -/
def execSet2E (s : State) : Out := set8 .i2 (.reg .e) s

/-- SET 2,H, 0xCB 0xD4 (R291). -/
def execSet2H (s : State) : Out := set8 .i2 (.reg .h) s

/-- SET 2,L, 0xCB 0xD5 (R291). -/
def execSet2L (s : State) : Out := set8 .i2 (.reg .l) s

/-- SET 2,(HL), 0xCB 0xD6 (R291). -/
def execSet2IndHl (s : State) : Out := set8 .i2 .indHl s

/-- SET 2,A, 0xCB 0xD7 (R291). -/
def execSet2A (s : State) : Out := set8 .i2 (.reg .a) s

/-- SET 3,B, 0xCB 0xD8 (R291). -/
def execSet3B (s : State) : Out := set8 .i3 (.reg .b) s

/-- SET 3,C, 0xCB 0xD9 (R291). -/
def execSet3C (s : State) : Out := set8 .i3 (.reg .c) s

/-- SET 3,D, 0xCB 0xDA (R291). -/
def execSet3D (s : State) : Out := set8 .i3 (.reg .d) s

/-- SET 3,E, 0xCB 0xDB (R291). -/
def execSet3E (s : State) : Out := set8 .i3 (.reg .e) s

/-- SET 3,H, 0xCB 0xDC (R291). -/
def execSet3H (s : State) : Out := set8 .i3 (.reg .h) s

/-- SET 3,L, 0xCB 0xDD (R291). -/
def execSet3L (s : State) : Out := set8 .i3 (.reg .l) s

/-- SET 3,(HL), 0xCB 0xDE (R291). -/
def execSet3IndHl (s : State) : Out := set8 .i3 .indHl s

/-- SET 3,A, 0xCB 0xDF (R291). -/
def execSet3A (s : State) : Out := set8 .i3 (.reg .a) s

/-- SET 4,B, 0xCB 0xE0 (R291). -/
def execSet4B (s : State) : Out := set8 .i4 (.reg .b) s

/-- SET 4,C, 0xCB 0xE1 (R291). -/
def execSet4C (s : State) : Out := set8 .i4 (.reg .c) s

/-- SET 4,D, 0xCB 0xE2 (R291). -/
def execSet4D (s : State) : Out := set8 .i4 (.reg .d) s

/-- SET 4,E, 0xCB 0xE3 (R291). -/
def execSet4E (s : State) : Out := set8 .i4 (.reg .e) s

/-- SET 4,H, 0xCB 0xE4 (R291). -/
def execSet4H (s : State) : Out := set8 .i4 (.reg .h) s

/-- SET 4,L, 0xCB 0xE5 (R291). -/
def execSet4L (s : State) : Out := set8 .i4 (.reg .l) s

/-- SET 4,(HL), 0xCB 0xE6 (R291). -/
def execSet4IndHl (s : State) : Out := set8 .i4 .indHl s

/-- SET 4,A, 0xCB 0xE7 (R291). -/
def execSet4A (s : State) : Out := set8 .i4 (.reg .a) s

/-- SET 5,B, 0xCB 0xE8 (R291). -/
def execSet5B (s : State) : Out := set8 .i5 (.reg .b) s

/-- SET 5,C, 0xCB 0xE9 (R291). -/
def execSet5C (s : State) : Out := set8 .i5 (.reg .c) s

/-- SET 5,D, 0xCB 0xEA (R291). -/
def execSet5D (s : State) : Out := set8 .i5 (.reg .d) s

/-- SET 5,E, 0xCB 0xEB (R291). -/
def execSet5E (s : State) : Out := set8 .i5 (.reg .e) s

/-- SET 5,H, 0xCB 0xEC (R291). -/
def execSet5H (s : State) : Out := set8 .i5 (.reg .h) s

/-- SET 5,L, 0xCB 0xED (R291). -/
def execSet5L (s : State) : Out := set8 .i5 (.reg .l) s

/-- SET 5,(HL), 0xCB 0xEE (R291). -/
def execSet5IndHl (s : State) : Out := set8 .i5 .indHl s

/-- SET 5,A, 0xCB 0xEF (R291). -/
def execSet5A (s : State) : Out := set8 .i5 (.reg .a) s

/-- SET 6,B, 0xCB 0xF0 (R291). -/
def execSet6B (s : State) : Out := set8 .i6 (.reg .b) s

/-- SET 6,C, 0xCB 0xF1 (R291). -/
def execSet6C (s : State) : Out := set8 .i6 (.reg .c) s

/-- SET 6,D, 0xCB 0xF2 (R291). -/
def execSet6D (s : State) : Out := set8 .i6 (.reg .d) s

/-- SET 6,E, 0xCB 0xF3 (R291). -/
def execSet6E (s : State) : Out := set8 .i6 (.reg .e) s

/-- SET 6,H, 0xCB 0xF4 (R291). -/
def execSet6H (s : State) : Out := set8 .i6 (.reg .h) s

/-- SET 6,L, 0xCB 0xF5 (R291). -/
def execSet6L (s : State) : Out := set8 .i6 (.reg .l) s

/-- SET 6,(HL), 0xCB 0xF6 (R291). -/
def execSet6IndHl (s : State) : Out := set8 .i6 .indHl s

/-- SET 6,A, 0xCB 0xF7 (R291). -/
def execSet6A (s : State) : Out := set8 .i6 (.reg .a) s

/-- SET 7,B, 0xCB 0xF8 (R291). -/
def execSet7B (s : State) : Out := set8 .i7 (.reg .b) s

/-- SET 7,C, 0xCB 0xF9 (R291). -/
def execSet7C (s : State) : Out := set8 .i7 (.reg .c) s

/-- SET 7,D, 0xCB 0xFA (R291). -/
def execSet7D (s : State) : Out := set8 .i7 (.reg .d) s

/-- SET 7,E, 0xCB 0xFB (R291). -/
def execSet7E (s : State) : Out := set8 .i7 (.reg .e) s

/-- SET 7,H, 0xCB 0xFC (R291). -/
def execSet7H (s : State) : Out := set8 .i7 (.reg .h) s

/-- SET 7,L, 0xCB 0xFD (R291). -/
def execSet7L (s : State) : Out := set8 .i7 (.reg .l) s

/-- SET 7,(HL), 0xCB 0xFE (R291). -/
def execSet7IndHl (s : State) : Out := set8 .i7 .indHl s

/-- SET 7,A, 0xCB 0xFF (R291). -/
def execSet7A (s : State) : Out := set8 .i7 (.reg .a) s

end Sys2Proof.Machine
end

