-- ==== Sys2Proof/Machine/Control.lean ====
section
/-! DEFINITION. Control transfer (spec/44_control.md R200 to R211). -/

namespace Sys2Proof.Machine

/-- JR, taken or not: the target is the next instruction's address plus e8 (R201, R202). -/
def jumpRelative (taken : Bool) (e : Byte) (s : State) : Out :=
  if taken then endStep s (s.nextPc 2 + sext16 e) s else advance 2 s s

/-- JP a16, taken or not (R203, R204). -/
def jumpTo (taken : Bool) (nn : Word) (s : State) : Out :=
  if taken then endStep s nn s else advance 3 s s

/-- CALL a16, taken or not: the return address is pushed (R206, R207). -/
def callTo (taken : Bool) (nn : Word) (s : State) : Out :=
  if taken then endStep s nn (s.push16 (s.nextPc 3)) else advance 3 s s

/-- RET, taken or not (R208, R209). -/
def returnIf (taken : Bool) (s : State) : Out :=
  if taken then endStep s s.popValue s.popped else advance 1 s s

/-- RST t (R210). -/
def restart (t : Idx8) (s : State) : Out := endStep s (rstVector t) (s.push16 (s.nextPc 1))

/-! ### The instructions -/

/-- JR e8, 0x18 (R201). -/
def execJrE8 (e : Byte) (s : State) : Out := jumpRelative true e s

/-- JR NZ,e8, 0x20 (R202). -/
def execJrNzE8 (e : Byte) (s : State) : Out := jumpRelative (s.cond .nz) e s

/-- JR Z,e8, 0x28 (R202). -/
def execJrZE8 (e : Byte) (s : State) : Out := jumpRelative (s.cond .z) e s

/-- JR NC,e8, 0x30 (R202). -/
def execJrNcE8 (e : Byte) (s : State) : Out := jumpRelative (s.cond .nc) e s

/-- JR C,e8, 0x38 (R202). -/
def execJrCE8 (e : Byte) (s : State) : Out := jumpRelative (s.cond .c) e s

/-- RET NZ, 0xC0 (R209). -/
def execRetNz (s : State) : Out := returnIf (s.cond .nz) s

/-- JP NZ,a16, 0xC2 (R204). -/
def execJpNzA16 (nn : Word) (s : State) : Out := jumpTo (s.cond .nz) nn s

/-- JP a16, 0xC3 (R203). -/
def execJpA16 (nn : Word) (s : State) : Out := jumpTo true nn s

/-- CALL NZ,a16, 0xC4 (R207). -/
def execCallNzA16 (nn : Word) (s : State) : Out := callTo (s.cond .nz) nn s

/-- RST 0x00, 0xC7 (R210). -/
def execRst00 (s : State) : Out := restart .i0 s

/-- RET Z, 0xC8 (R209). -/
def execRetZ (s : State) : Out := returnIf (s.cond .z) s

/-- RET, 0xC9 (R208). -/
def execRet (s : State) : Out := returnIf true s

/-- JP Z,a16, 0xCA (R204). -/
def execJpZA16 (nn : Word) (s : State) : Out := jumpTo (s.cond .z) nn s

/-- CALL Z,a16, 0xCC (R207). -/
def execCallZA16 (nn : Word) (s : State) : Out := callTo (s.cond .z) nn s

/-- CALL a16, 0xCD (R206). -/
def execCallA16 (nn : Word) (s : State) : Out := callTo true nn s

/-- RST 0x08, 0xCF (R210). -/
def execRst08 (s : State) : Out := restart .i1 s

/-- RET NC, 0xD0 (R209). -/
def execRetNc (s : State) : Out := returnIf (s.cond .nc) s

/-- JP NC,a16, 0xD2 (R204). -/
def execJpNcA16 (nn : Word) (s : State) : Out := jumpTo (s.cond .nc) nn s

/-- CALL NC,a16, 0xD4 (R207). -/
def execCallNcA16 (nn : Word) (s : State) : Out := callTo (s.cond .nc) nn s

/-- RST 0x10, 0xD7 (R210). -/
def execRst10 (s : State) : Out := restart .i2 s

/-- RET C, 0xD8 (R209). -/
def execRetC (s : State) : Out := returnIf (s.cond .c) s

/-- RETI, 0xD9 (R211). -/
def execReti (s : State) : Out := endStep s s.popValue { s.popped with ime := true }

/-- JP C,a16, 0xDA (R204). -/
def execJpCA16 (nn : Word) (s : State) : Out := jumpTo (s.cond .c) nn s

/-- CALL C,a16, 0xDC (R207). -/
def execCallCA16 (nn : Word) (s : State) : Out := callTo (s.cond .c) nn s

/-- RST 0x18, 0xDF (R210). -/
def execRst18 (s : State) : Out := restart .i3 s

/-- RST 0x20, 0xE7 (R210). -/
def execRst20 (s : State) : Out := restart .i4 s

/-- JP HL, 0xE9 (R205). -/
def execJpHl (s : State) : Out := endStep s s.hl s

/-- RST 0x28, 0xEF (R210). -/
def execRst28 (s : State) : Out := restart .i5 s

/-- RST 0x30, 0xF7 (R210). -/
def execRst30 (s : State) : Out := restart .i6 s

/-- RST 0x38, 0xFF (R210). -/
def execRst38 (s : State) : Out := restart .i7 s

end Sys2Proof.Machine
end

