-- ==== Sys2Proof/Machine/Loads.lean ====
section
/-! DEFINITION. Loads (spec/46_loads.md R240 to R259). No load changes a flag. -/

namespace Sys2Proof.Machine

/-- LD r,r' (R240). -/
def loadReg (dst src : Reg8) (s : State) : Out := advance 1 s (s.setReg dst (s.reg src))

/-- LD r,(HL), HL as it was before (R241). -/
def loadRegHl (dst : Reg8) (s : State) : Out := advance 1 s (s.setReg dst (s.read8 s.hl))

/-- LD r,d8 (R243). -/
def loadRegImm (dst : Reg8) (n : Byte) (s : State) : Out := advance 2 s (s.setReg dst n)

/-- A byte stored at HL by an instruction of length `len` (R242, R244). -/
def storeHl (len : Nat) (v : Byte) (s : State) : Out := advance len s (s.write8 s.hl v)

/-- LD rr,d16 (R245). -/
def loadPairImm (p : Pair) (nn : Word) (s : State) : Out := advance 3 s (s.setPair p nn)

/-- A stored at an address by an instruction of length `len` (R246, R247, R254, R256, R258). -/
def storeA (len : Nat) (addr : Word) (s : State) : Out := advance len s (s.write8 addr s.a)

/-- A loaded from an address by an instruction of length `len` (R250, R251, R255, R257, R259). -/
def loadA (len : Nat) (addr : Word) (s : State) : Out := advance len s { s with a := s.read8 addr }

/-! ### The instructions -/

/-- LD BC,d16, 0x01 (R245). -/
def execLdBcD16 (nn : Word) (s : State) : Out := loadPairImm .bc nn s

/-- LD (BC),A, 0x02 (R246). -/
def execLdIndBcA (s : State) : Out := storeA 1 s.bc s

/-- LD B,d8, 0x06 (R243). -/
def execLdBD8 (n : Byte) (s : State) : Out := loadRegImm .b n s

/-- LD A,(BC), 0x0A (R250). -/
def execLdAIndBc (s : State) : Out := loadA 1 s.bc s

/-- LD C,d8, 0x0E (R243). -/
def execLdCD8 (n : Byte) (s : State) : Out := loadRegImm .c n s

/-- LD DE,d16, 0x11 (R245). -/
def execLdDeD16 (nn : Word) (s : State) : Out := loadPairImm .de nn s

/-- LD (DE),A, 0x12 (R247). -/
def execLdIndDeA (s : State) : Out := storeA 1 s.de s

/-- LD D,d8, 0x16 (R243). -/
def execLdDD8 (n : Byte) (s : State) : Out := loadRegImm .d n s

/-- LD A,(DE), 0x1A (R251). -/
def execLdAIndDe (s : State) : Out := loadA 1 s.de s

/-- LD E,d8, 0x1E (R243). -/
def execLdED8 (n : Byte) (s : State) : Out := loadRegImm .e n s

/-- LD HL,d16, 0x21 (R245). -/
def execLdHlD16 (nn : Word) (s : State) : Out := loadPairImm .hl nn s

/-- LD (HL+),A, 0x22 (R248). -/
def execLdIndHlIncA (s : State) : Out := advance 1 s ((s.write8 s.hl s.a).setHl (s.hl + 1))

/-- LD H,d8, 0x26 (R243). -/
def execLdHD8 (n : Byte) (s : State) : Out := loadRegImm .h n s

/-- LD A,(HL+), 0x2A (R252). -/
def execLdAIndHlInc (s : State) : Out := advance 1 s ({ s with a := s.read8 s.hl }.setHl (s.hl + 1))

/-- LD L,d8, 0x2E (R243). -/
def execLdLD8 (n : Byte) (s : State) : Out := loadRegImm .l n s

/-- LD SP,d16, 0x31 (R245). -/
def execLdSpD16 (nn : Word) (s : State) : Out := loadPairImm .sp nn s

/-- LD (HL-),A, 0x32 (R249). -/
def execLdIndHlDecA (s : State) : Out := advance 1 s ((s.write8 s.hl s.a).setHl (s.hl - 1))

/-- LD (HL),d8, 0x36 (R244). -/
def execLdIndHlD8 (n : Byte) (s : State) : Out := storeHl 2 n s

/-- LD A,(HL-), 0x3A (R253). -/
def execLdAIndHlDec (s : State) : Out := advance 1 s ({ s with a := s.read8 s.hl }.setHl (s.hl - 1))

/-- LD A,d8, 0x3E (R243). -/
def execLdAD8 (n : Byte) (s : State) : Out := loadRegImm .a n s

/-- LD B,B, 0x40 (R240). -/
def execLdBB (s : State) : Out := loadReg .b .b s

/-- LD B,C, 0x41 (R240). -/
def execLdBC (s : State) : Out := loadReg .b .c s

/-- LD B,D, 0x42 (R240). -/
def execLdBD (s : State) : Out := loadReg .b .d s

/-- LD B,E, 0x43 (R240). -/
def execLdBE (s : State) : Out := loadReg .b .e s

/-- LD B,H, 0x44 (R240). -/
def execLdBH (s : State) : Out := loadReg .b .h s

/-- LD B,L, 0x45 (R240). -/
def execLdBL (s : State) : Out := loadReg .b .l s

/-- LD B,(HL), 0x46 (R241). -/
def execLdBIndHl (s : State) : Out := loadRegHl .b s

/-- LD B,A, 0x47 (R240). -/
def execLdBA (s : State) : Out := loadReg .b .a s

/-- LD C,B, 0x48 (R240). -/
def execLdCB (s : State) : Out := loadReg .c .b s

/-- LD C,C, 0x49 (R240). -/
def execLdCC (s : State) : Out := loadReg .c .c s

/-- LD C,D, 0x4A (R240). -/
def execLdCD (s : State) : Out := loadReg .c .d s

/-- LD C,E, 0x4B (R240). -/
def execLdCE (s : State) : Out := loadReg .c .e s

/-- LD C,H, 0x4C (R240). -/
def execLdCH (s : State) : Out := loadReg .c .h s

/-- LD C,L, 0x4D (R240). -/
def execLdCL (s : State) : Out := loadReg .c .l s

/-- LD C,(HL), 0x4E (R241). -/
def execLdCIndHl (s : State) : Out := loadRegHl .c s

/-- LD C,A, 0x4F (R240). -/
def execLdCA (s : State) : Out := loadReg .c .a s

/-- LD D,B, 0x50 (R240). -/
def execLdDB (s : State) : Out := loadReg .d .b s

/-- LD D,C, 0x51 (R240). -/
def execLdDC (s : State) : Out := loadReg .d .c s

/-- LD D,D, 0x52 (R240). -/
def execLdDD (s : State) : Out := loadReg .d .d s

/-- LD D,E, 0x53 (R240). -/
def execLdDE (s : State) : Out := loadReg .d .e s

/-- LD D,H, 0x54 (R240). -/
def execLdDH (s : State) : Out := loadReg .d .h s

/-- LD D,L, 0x55 (R240). -/
def execLdDL (s : State) : Out := loadReg .d .l s

/-- LD D,(HL), 0x56 (R241). -/
def execLdDIndHl (s : State) : Out := loadRegHl .d s

/-- LD D,A, 0x57 (R240). -/
def execLdDA (s : State) : Out := loadReg .d .a s

/-- LD E,B, 0x58 (R240). -/
def execLdEB (s : State) : Out := loadReg .e .b s

/-- LD E,C, 0x59 (R240). -/
def execLdEC (s : State) : Out := loadReg .e .c s

/-- LD E,D, 0x5A (R240). -/
def execLdED (s : State) : Out := loadReg .e .d s

/-- LD E,E, 0x5B (R240). -/
def execLdEE (s : State) : Out := loadReg .e .e s

/-- LD E,H, 0x5C (R240). -/
def execLdEH (s : State) : Out := loadReg .e .h s

/-- LD E,L, 0x5D (R240). -/
def execLdEL (s : State) : Out := loadReg .e .l s

/-- LD E,(HL), 0x5E (R241). -/
def execLdEIndHl (s : State) : Out := loadRegHl .e s

/-- LD E,A, 0x5F (R240). -/
def execLdEA (s : State) : Out := loadReg .e .a s

/-- LD H,B, 0x60 (R240). -/
def execLdHB (s : State) : Out := loadReg .h .b s

/-- LD H,C, 0x61 (R240). -/
def execLdHC (s : State) : Out := loadReg .h .c s

/-- LD H,D, 0x62 (R240). -/
def execLdHD (s : State) : Out := loadReg .h .d s

/-- LD H,E, 0x63 (R240). -/
def execLdHE (s : State) : Out := loadReg .h .e s

/-- LD H,H, 0x64 (R240). -/
def execLdHH (s : State) : Out := loadReg .h .h s

/-- LD H,L, 0x65 (R240). -/
def execLdHL (s : State) : Out := loadReg .h .l s

/-- LD H,(HL), 0x66 (R241). -/
def execLdHIndHl (s : State) : Out := loadRegHl .h s

/-- LD H,A, 0x67 (R240). -/
def execLdHA (s : State) : Out := loadReg .h .a s

/-- LD L,B, 0x68 (R240). -/
def execLdLB (s : State) : Out := loadReg .l .b s

/-- LD L,C, 0x69 (R240). -/
def execLdLC (s : State) : Out := loadReg .l .c s

/-- LD L,D, 0x6A (R240). -/
def execLdLD (s : State) : Out := loadReg .l .d s

/-- LD L,E, 0x6B (R240). -/
def execLdLE (s : State) : Out := loadReg .l .e s

/-- LD L,H, 0x6C (R240). -/
def execLdLH (s : State) : Out := loadReg .l .h s

/-- LD L,L, 0x6D (R240). -/
def execLdLL (s : State) : Out := loadReg .l .l s

/-- LD L,(HL), 0x6E (R241). -/
def execLdLIndHl (s : State) : Out := loadRegHl .l s

/-- LD L,A, 0x6F (R240). -/
def execLdLA (s : State) : Out := loadReg .l .a s

/-- LD (HL),B, 0x70 (R242). -/
def execLdIndHlB (s : State) : Out := storeHl 1 (s.reg .b) s

/-- LD (HL),C, 0x71 (R242). -/
def execLdIndHlC (s : State) : Out := storeHl 1 (s.reg .c) s

/-- LD (HL),D, 0x72 (R242). -/
def execLdIndHlD (s : State) : Out := storeHl 1 (s.reg .d) s

/-- LD (HL),E, 0x73 (R242). -/
def execLdIndHlE (s : State) : Out := storeHl 1 (s.reg .e) s

/-- LD (HL),H, 0x74 (R242). -/
def execLdIndHlH (s : State) : Out := storeHl 1 (s.reg .h) s

/-- LD (HL),L, 0x75 (R242). -/
def execLdIndHlL (s : State) : Out := storeHl 1 (s.reg .l) s

/-- LD (HL),A, 0x77 (R242). -/
def execLdIndHlA (s : State) : Out := storeHl 1 (s.reg .a) s

/-- LD A,B, 0x78 (R240). -/
def execLdAB (s : State) : Out := loadReg .a .b s

/-- LD A,C, 0x79 (R240). -/
def execLdAC (s : State) : Out := loadReg .a .c s

/-- LD A,D, 0x7A (R240). -/
def execLdAD (s : State) : Out := loadReg .a .d s

/-- LD A,E, 0x7B (R240). -/
def execLdAE (s : State) : Out := loadReg .a .e s

/-- LD A,H, 0x7C (R240). -/
def execLdAH (s : State) : Out := loadReg .a .h s

/-- LD A,L, 0x7D (R240). -/
def execLdAL (s : State) : Out := loadReg .a .l s

/-- LD A,(HL), 0x7E (R241). -/
def execLdAIndHl (s : State) : Out := loadRegHl .a s

/-- LD A,A, 0x7F (R240). -/
def execLdAA (s : State) : Out := loadReg .a .a s

/-- LDH (a8),A, 0xE0 (R256). -/
def execLdhIndA8A (n : Byte) (s : State) : Out := storeA 2 (highPage n) s

/-- LD (C),A, 0xE2 (R258). -/
def execLdIndCA (s : State) : Out := storeA 1 (highPage s.c) s

/-- LD (a16),A, 0xEA (R254). -/
def execLdIndA16A (nn : Word) (s : State) : Out := storeA 3 nn s

/-- LDH A,(a8), 0xF0 (R257). -/
def execLdhAIndA8 (n : Byte) (s : State) : Out := loadA 2 (highPage n) s

/-- LD A,(C), 0xF2 (R259). -/
def execLdAIndC (s : State) : Out := loadA 1 (highPage s.c) s

/-- LD A,(a16), 0xFA (R255). -/
def execLdAIndA16 (nn : Word) (s : State) : Out := loadA 3 nn s

end Sys2Proof.Machine
end

