-- ==== Sys2Proof/Machine/Stack.lean ====
section
/-! DEFINITION. PUSH, POP and the stack-pointer loads (spec/45_stack.md R232 to R236). -/

namespace Sys2Proof.Machine

/-- PUSH rr (R232). -/
def pushPair (p : StackPair) (s : State) : Out := advance 1 s (s.push16 (s.stackPair p))

/-- POP rr (R233, R234). -/
def popPair (p : StackPair) (s : State) : Out := advance 1 s (s.popped.setStackPair p s.popValue)

/-! ### The instructions -/

/-- LD (a16),SP, 0x08 (R236). -/
def execLdIndA16Sp (nn : Word) (s : State) : Out := advance 3 s (s.write16 nn s.sp)

/-- POP BC, 0xC1 (R233). -/
def execPopBc (s : State) : Out := popPair .bc s

/-- PUSH BC, 0xC5 (R232). -/
def execPushBc (s : State) : Out := pushPair .bc s

/-- POP DE, 0xD1 (R233). -/
def execPopDe (s : State) : Out := popPair .de s

/-- PUSH DE, 0xD5 (R232). -/
def execPushDe (s : State) : Out := pushPair .de s

/-- POP HL, 0xE1 (R233). -/
def execPopHl (s : State) : Out := popPair .hl s

/-- PUSH HL, 0xE5 (R232). -/
def execPushHl (s : State) : Out := pushPair .hl s

/-- POP AF, 0xF1 (R234). -/
def execPopAf (s : State) : Out := popPair .af s

/-- PUSH AF, 0xF5 (R232). -/
def execPushAf (s : State) : Out := pushPair .af s

/-- LD SP,HL, 0xF9 (R235). -/
def execLdSpHl (s : State) : Out := advance 1 s { s with sp := s.hl }

end Sys2Proof.Machine
end

