-- ==== Sys2Proof/Machine/System.lean ====
section
/-! DEFINITION. NOP, HALT, STOP, DI, EI and the unknown opcodes (spec/40_dispatch.md R103 to R108). -/

namespace Sys2Proof.Machine

/-- An unknown opcode: reported and skipped, or a self-loop (R108). -/
def unknownOpcode (op : Byte) (s : State) : Out :=
  match s.params.unknownOpcode with
  | .skip => advance 1 s (s.report op)
  | .stuck => endStep s s.pc s

/-! ### The instructions -/

/-- NOP, 0x00 (R103). -/
def execNop (s : State) : Out := advance 1 s s

/-- STOP, 0x10 (R105). -/
def execStop (operand : Byte) (s : State) : Out :=
  if operand = 0x00 then advance 2 s s.halt else refuse .stopNonZeroOperand s

/-- HALT, 0x76 (R104). -/
def execHalt (s : State) : Out := advance 1 s s.halt

/-- unknown opcode, 0xD3 (R108). -/
def execUnknownD3 (s : State) : Out := unknownOpcode 0xD3 s

/-- unknown opcode, 0xDB (R108). -/
def execUnknownDB (s : State) : Out := unknownOpcode 0xDB s

/-- unknown opcode, 0xDD (R108). -/
def execUnknownDD (s : State) : Out := unknownOpcode 0xDD s

/-- unknown opcode, 0xE3 (R108). -/
def execUnknownE3 (s : State) : Out := unknownOpcode 0xE3 s

/-- unknown opcode, 0xE4 (R108). -/
def execUnknownE4 (s : State) : Out := unknownOpcode 0xE4 s

/-- unknown opcode, 0xEB (R108). -/
def execUnknownEB (s : State) : Out := unknownOpcode 0xEB s

/-- unknown opcode, 0xEC (R108). -/
def execUnknownEC (s : State) : Out := unknownOpcode 0xEC s

/-- unknown opcode, 0xED (R108). -/
def execUnknownED (s : State) : Out := unknownOpcode 0xED s

/-- DI, 0xF3 (R106). -/
def execDi (s : State) : Out := advance 1 s { s with ime := false, imePending := false }

/-- unknown opcode, 0xF4 (R108). -/
def execUnknownF4 (s : State) : Out := unknownOpcode 0xF4 s

/-- EI, 0xFB (R107). -/
def execEi (s : State) : Out := advance 1 s { s with imePending := true }

/-- unknown opcode, 0xFC (R108). -/
def execUnknownFC (s : State) : Out := unknownOpcode 0xFC s

/-- unknown opcode, 0xFD (R108). -/
def execUnknownFD (s : State) : Out := unknownOpcode 0xFD s

end Sys2Proof.Machine
end

