-- ==== Sys2Proof/Machine/Step.lean ====
section
/-! DEFINITION. One step of the core (spec/40_dispatch.md R100), and the placing of one instruction where
the next step fetches it. -/

namespace Sys2Proof.Machine

/-- One step executes one instruction (R100), where a step exists (R110). Every meaning ends the step
itself (`endStep`, R102), so nothing is added around `exec`. -/
def step (s : State) : Host.Outcome State Fault Refusal :=
  match noStep s with
  | some stopped => stopped
  | none => exec (fetch s) s

/-- The state with a table word's three bytes stored at PC, PC + 1 and PC + 2, where `fetch` reads them.
It stands for the load of a program (log 4). -/
def State.withFetchWord (s : State) (nbits w : Nat) : State :=
  let (b0, b1, b2) := tableBytes nbits w
  ((s.write8 s.pc b0).write8 (s.pc + 1) b1).write8 (s.pc + 2) b2

end Sys2Proof.Machine
end

