-- ==== Sys2Proof/Machine/Boot.lean ====
section
/-! DEFINITION. Construction and the ROM load (spec/70_reset_and_hazards.md R330 to R336). -/

namespace Sys2Proof.Machine

/-- Why no run starts: the byte source could not be opened, or the image is larger than the bus (R335). -/
inductive LoadError where
  | romLoadFailure
  deriving DecidableEq, Repr

/-- The bytes of an image written from address `at0` on, the rest of memory as it was (R335). -/
def Memory.load (m : Memory) (at0 : Nat) : List Byte → Memory
  | [] => m
  | v :: rest => Memory.load (Memory.write m at0 v) (at0 + 1) rest

/-- The ROM load into memory that is all 0: `none` is a byte source that cannot be opened (R335). -/
def loadRom (source : Option (List Byte)) : Except LoadError Memory :=
  match source with
  | none => .error .romLoadFailure
  | some image =>
    if image.length > busSize then .error .romLoadFailure else .ok (Memory.load [] 0 image)

/-- Boot: construct the core, then load the ROM. If the load fails there is no core to step (R335, R336). -/
def boot (p : Params) (r : ResetRegs) (source : Option (List Byte)) : Except LoadError State :=
  match loadRom source with
  | .error e => .error e
  | .ok m => .ok { State.ofReset p r with mem := m }

end Sys2Proof.Machine
end

