-- ==== Sys2Proof/Machine/Driver.lean ====
section
/-! DEFINITION. The host's driver loop (spec/60_exceptions.md R318), a whole run (R315, R336), and what the host
reads of it (R39, R316). -/

namespace Sys2Proof.Machine

/-- How the driver loop stands. -/
inductive RunEnd where
  /-- `running = 0`: the run has ended (R315). -/
  | halted
  /-- The mark is set: there is no step and the state is not final (R34, R315). -/
  | refused (reason : RefuseReason)
  /-- The input source said stop (R318). -/
  | stopped
  /-- The list of the input source's answers is used up: the loop is still running. -/
  | running
  deriving DecidableEq, Repr

/-- The driver loop against the answers of the input source, `true` for stop. Each round tests `running`,
then the mark, then asks, then steps (R318). The answers are an input, one a round. DESIGN CHOICE (log 13).
The last arm is never reached: a step exists wherever the tests before it pass (R110). -/
def drive : List Bool → State → State × RunEnd
  | answers, s =>
    if s.running then
      match s.refused with
      | some reason => (s, .refused reason)
      | none =>
        match answers with
        | [] => (s, .running)
        | true :: _ => (s, .stopped)
        | false :: rest =>
          match step s with
          | .next t => drive rest t
          | _ => (s, .halted)
    else (s, .halted)

/-- Boot, and only if the load succeeded the driver loop (R335, R336). -/
def run (p : Params) (r : ResetRegs) (source : Option (List Byte)) (answers : List Bool) :
    Except LoadError (State × RunEnd) :=
  match boot p r source with
  | .error e => .error e
  | .ok s => .ok (drive answers s)

/-- What the host can read of a core through its accessors, between steps and after a run (R39, R316).
`ime_pending` is not among them. -/
structure Observation where
  a : Byte
  b : Byte
  c : Byte
  d : Byte
  e : Byte
  h : Byte
  l : Byte
  f : Byte
  fz : Bool
  fn : Bool
  fh : Bool
  fc : Bool
  pc : Word
  sp : Word
  running : Bool
  ime : Bool
  events : List Event
  refused : Option RefuseReason
  mem : Memory
  deriving DecidableEq, Repr

/-- The accessors (R39, R316). Reading changes nothing. -/
def State.observe (s : State) : Observation :=
  { a := s.a, b := s.b, c := s.c, d := s.d, e := s.e, h := s.h, l := s.l, f := s.f,
    fz := s.fz, fn := s.fn, fh := s.fh, fc := s.fc, pc := s.pc, sp := s.sp,
    running := s.running, ime := s.ime, events := s.events, refused := s.refused, mem := s.mem }

end Sys2Proof.Machine
end

