-- ==== Sys2Proof/Safety.lean ====
section
/-! DEFINITION. The terms claims are stated in: the invariant of the core, a completed run, the end of a
step, and the addresses an instruction stores to. -/

namespace Sys2Proof.Machine

/-- The invariant every step keeps (R34, R35, R37, R88, R108, R109). The register widths and F[3:0] = 0
of R37 are in the types and in `State.f`. -/
structure CoreInv (s : State) : Prop where
  /-- The memory array is in canonical form. -/
  memWf : Memory.wf s.mem = true
  /-- A core is never both Halted and refused: no step follows either (R110). -/
  notBoth : s.running = false → s.refused = none
  /-- The mark `CBPrefixRefused` stands only under `CB_PREFIX = refuse` (R109). -/
  cbMark : s.refused = some .cbPrefixRefused → s.params.cbPrefix = .refuse
  /-- Only the 11 unknown opcodes are logged (R33, R88). -/
  logged : ∀ e ∈ s.events, e.op ∈ unknownBytes
  /-- Nothing is logged under `UNKNOWN_OPCODE_POLICY = stuck` (R108). -/
  stuckLog : s.params.unknownOpcode = .stuck → s.events = []

/-- A run has ended: Halted, and the premise `refused = none` that R34 asks of such a claim. -/
def Completed (s : State) : Prop := s.running = false ∧ s.refused = none

/-- `t` at the end of a step whose instruction touched neither IME nor its pending bit: PC is `pc`, and a
pending EI has taken effect (R102). -/
def State.ended (t : State) (pc : Word) : State :=
  { t with pc := pc, ime := t.ime || t.imePending, imePending := false }

/-- The two bytes `Push16` stores to (R230). -/
def pushAddresses (s : State) : List Word := [s.sp - 1, s.sp - 1 - 1]

/-- The addresses an instruction stores to when it runs in `s`, each by the expression its meaning uses:
empty for every instruction not listed. -/
def storeAddresses (i : Instr) (s : State) : List Word :=
  match i with
  | .ldIndHlB | .ldIndHlC | .ldIndHlD | .ldIndHlE | .ldIndHlH | .ldIndHlL | .ldIndHlA | .ldIndHlIncA
  | .ldIndHlDecA | .incIndHl | .decIndHl => [s.hl]
  | .ldIndHlD8 _ => [s.hl]
  | .rlcIndHl | .rrcIndHl | .rlIndHl | .rrIndHl | .slaIndHl | .sraIndHl | .swapIndHl | .srlIndHl
  | .res0IndHl | .res1IndHl | .res2IndHl | .res3IndHl | .res4IndHl | .res5IndHl | .res6IndHl
  | .res7IndHl | .set0IndHl | .set1IndHl | .set2IndHl | .set3IndHl | .set4IndHl | .set5IndHl
  | .set6IndHl | .set7IndHl => [s.hl]
  | .prefixCb op2 =>
    match s.params.cbPrefix, xField op2, opnd8 (zField op2) with
    | .execute, .i0, .indHl => [s.hl]
    | .execute, .i2, .indHl => [s.hl]
    | .execute, .i3, .indHl => [s.hl]
    | _, _, _ => []
  | .ldIndBcA => [s.bc]
  | .ldIndDeA => [s.de]
  | .ldIndCA => [highPage s.c]
  | .ldhIndA8A n => [highPage n]
  | .ldIndA16A nn => [nn]
  | .ldIndA16Sp nn => [nn, nn + 1]
  | .pushBc | .pushDe | .pushHl | .pushAf | .callA16 _ => pushAddresses s
  | .rst00 | .rst08 | .rst10 | .rst18 | .rst20 | .rst28 | .rst30 | .rst38 => pushAddresses s
  | .callNzA16 _ => if s.cond .nz then pushAddresses s else []
  | .callZA16 _ => if s.cond .z then pushAddresses s else []
  | .callNcA16 _ => if s.cond .nc then pushAddresses s else []
  | .callCA16 _ => if s.cond .c then pushAddresses s else []
  | _ => []

end Sys2Proof.Machine
end

