-- ==== Sys2Proof/Certificates/Slice0/Obligations.lean ====
section
/-! DEFINITION. The statements for the provers. A result is stated as the whole next state, so that each
is also the instruction's frame and says where it completes. `t.ended pc` is `t` with PC at `pc` and a
pending EI in effect (R102). Encodings are stated beside the effects, from the tables R72 and R85. -/

open Sys2Proof Sys2Proof.Machine

/-! ### Words the statements are made of -/

/-- An ALU instruction on A in its three forms (R130): its effect on A and the flags, and its encoding. -/
def Sys2Proof.Claims.AluRule (op : AluOp) (effect : State → Byte → State) : Prop :=
  (∀ s r, exec (Instr.alu op (.reg r)) s = .next ((effect s (s.reg r)).ended (s.pc + 1))) ∧
  (∀ s, exec (Instr.alu op .indHl) s = .next ((effect s (s.read8 s.hl)).ended (s.pc + 1))) ∧
  (∀ s n, exec (Instr.alu op (.imm n)) s = .next ((effect s n).ended (s.pc + 2))) ∧
  (∀ r, encode (Instr.alu op (.reg r)) = [0x80 + 8 * op.code + r.code]) ∧
  encode (Instr.alu op .indHl) = [0x86 + 8 * op.code] ∧
  (∀ n, encode (Instr.alu op (.imm n)) = [0xC6 + 8 * op.code, n])

/-- A logic operation: its effect on A and the flags, half-carry forced to `half`. -/
def Sys2Proof.Claims.logicEffect (f : Byte → Byte → Byte) (half : Bool) (s : State) (b : Byte) : State :=
  { s with a := f s.a b, fz := decide (f s.a b = 0), fn := false, fh := half, fc := false }

/-- The condition of a `cc` code, as R78 and R200 write it. -/
def Sys2Proof.Claims.Holds (cc : Cond) (s : State) : Prop :=
  match cc with
  | .nz => s.fz = false
  | .z => s.fz = true
  | .nc => s.fc = false
  | .c => s.fc = true

/-- `t` is `s` with `v` pushed: SP is 2 less, the high byte at SP - 1 and the low byte at SP - 2 of the SP
before, every other byte and every other field as in `s` (R230). -/
def Sys2Proof.Claims.Pushed (s : State) (v : Word) (t : State) : Prop :=
  t.sp = s.sp - 2 ∧ t.read8 (s.sp - 1) = hiByte v ∧ t.read8 (s.sp - 2) = loByte v ∧
  (∀ a, a ≠ s.sp - 1 → a ≠ s.sp - 2 → t.read8 a = s.read8 a) ∧
  t = { s with sp := t.sp, mem := t.mem }

/-- `e8` as a signed number added to an address, wrapped (R11, R73). -/
def Sys2Proof.Claims.offset (base : Word) (e : Byte) : Word := BitVec.ofInt 16 (base.toNat + e.toInt)

/-- Two decimal digits, packed. -/
def Sys2Proof.Claims.bcd (x : Nat) : Byte := BitVec.ofNat 8 (x / 10 * 16 + x % 10)

open Sys2Proof.Claims

/-! ### Encoding -/

/-- Words written out from R85 and R90 (spec/95_test_vectors.md V12), one of each family. -/
def Obligations.SpecWordsDecode : Prop :=
  decode .refuse [0x3E, 0x05, 0x80] = .ok (.ldAD8 0x05, [0x80]) ∧
  decode .refuse [0x80] = .ok (.addAB, []) ∧
  decode .refuse [0x27] = .ok (.daa, []) ∧
  decode .refuse [0x39] = .ok (.addHlSp, []) ∧
  decode .refuse [0xC3, 0x34, 0x12] = .ok (.jpA16 0x1234, []) ∧
  decode .refuse [0xF5] = .ok (.pushAf, []) ∧
  decode .refuse [0xD3] = .ok (.unknownD3, []) ∧
  decode .refuse [0x76] = .ok (.halt, []) ∧
  decode .execute [0xCB, 0x7C] = .ok (.bit7H, []) ∧
  decode .refuse [0xCB, 0x7C] = .ok (.prefixCb 0x7C, [])

/-- Decoding an encoded instruction gives it back, every operand at every value: under
`CB_PREFIX = execute` every row but PREFIX_CB, under `refuse` every row but the CB map's (R89, R93). -/
def Obligations.DecodeOfEncode : Prop :=
  (∀ i rest, (∀ op2, i ≠ .prefixCb op2) → decode .execute (encode i ++ rest) = .ok (i, rest)) ∧
  (∀ i rest, (∀ op2, i ≠ decodeCb op2) → decode .refuse (encode i ++ rest) = .ok (i, rest))

/-- The other direction: bytes that decode are the encoding of what they decode to. -/
def Obligations.EncodeOfDecode : Prop :=
  ∀ cb bytes i rest, decode cb bytes = .ok (i, rest) → bytes = encode i ++ rest

/-- Decoding is total: a first byte with its immediates decodes, and takes no byte more (R70, R86, R93). -/
def Obligations.DecodeIsTotal : Prop :=
  ∀ cb op rest, immLen op ≤ rest.length →
    ∃ i, decode cb (op :: rest) = .ok (i, rest.drop (immLen op))

/-! ### The step -/

/-- A step runs the instruction the three bytes from PC on decode to (R100). Nothing is added around
`exec`: each meaning moves PC itself. -/
def Obligations.StepRunsDecodedInstruction : Prop :=
  ∀ s i rest, s.running = true → s.refused = none →
    decode s.params.cbPrefix [s.read8 s.pc, s.read8 (s.pc + 1), s.read8 (s.pc + 2)] = .ok (i, rest) →
    step s = exec i s

/-- R110: a step exists only when `running = 1` and `refused = none`, and then it does. -/
def Obligations.StepExistsIffRunningAndNotRefused : Prop :=
  ∀ s, (∃ t, step s = .next t) ↔ s.running = true ∧ s.refused = none

/-- What the model answers where no step exists: the fault `halted`, or the refusal of the mark's name.
The two answers are the model's choice (log 6). -/
def Obligations.NoStepAnswers : Prop :=
  ∀ s, (s.running = false → step s = .fault .halted) ∧
    (s.running = true → s.refused = some .cbPrefixRefused → step s = .refused .cbPrefixRefused) ∧
    (s.running = true → s.refused = some .stopNonZeroOperand → step s = .refused .stopNonZeroOperand)

/-- No instruction faults or traps in any state (R300), none answers a refusal of `exec`, and none changes a
parameter (R9, R36). Two parts of this are the model's, not R300's. That PREFIX_CB under `refuse` and STOP with
a non-zero operand, which R301 calls refused, answer a next state holding the mark is log 5. That `exec` answers
in states where no step begins is log 8. The field `params` is log 1. -/
def Obligations.EveryInstructionCompletes : Prop :=
  ∀ i s, ∃ t, exec i s = .next t ∧ t.params = s.params

/-- An instruction outside the control-transfer slots of R87, not refused, moves PC by 1 + L
(R86, R102; spec/95_test_vectors.md E4; 90_conflicts.md C16 for `skip`). -/
def Obligations.PcAdvancesByLength : Prop :=
  ∀ i s t op imms, exec i s = .next t → encode i = op :: imms → op ∉ controlTransfer →
    s.refused = none → t.refused = none → s.params.unknownOpcode = .skip →
    t.pc = s.pc + BitVec.ofNat 16 (1 + immLen op)

/-! ### Reset, ROM load, invariant -/

/-- R335 and R38: under every RESET_REGS an image of at most 65536 bytes loads at address 0, the rest of
memory is 0, and every field has the value of R38. A source that cannot be opened, or a longer image, starts
no run. -/
def Obligations.BootLoadsRomAtZero : Prop :=
  (∀ p r image, image.length ≤ 65536 → ∃ m,
    boot p r (some image) =
      .ok { a := r.a, b := r.b, c := r.c, d := r.d, e := r.e, h := r.h, l := r.l,
            fz := r.fz, fn := r.fn, fh := r.fh, fc := r.fc, sp := r.sp, pc := 0,
            running := true, ime := false, imePending := false, events := [], refused := none,
            mem := m, params := p } ∧
    ∀ a < 65536, Memory.read m a = image.getD a 0) ∧
  (∀ p r image, 65536 < image.length → boot p r (some image) = .error .romLoadFailure) ∧
  (∀ p r, boot p r none = .error .romLoadFailure)

/-- The invariant holds at reset (parameters and registers as log 1 and log 2 choose them), and of every core
booted with any. -/
def Obligations.ResetAndBootMeetInvariant : Prop :=
  CoreInv State.reset ∧ ∀ p r source s, boot p r source = .ok s → CoreInv s

/-- Every step keeps the invariant, from every state that meets it, under every parameter. -/
def Obligations.StepKeepsInvariant : Prop :=
  ∀ s t, CoreInv s → step s = .next t → CoreInv t

/-- A whole run of the driver loop, whatever the input source answers, keeps the invariant. That the answers
are a finite list, and what state stands when it is used up, is the model's choice (log 13). -/
def Obligations.RunKeepsInvariant : Prop :=
  ∀ answers s, CoreInv s → CoreInv (drive answers s).1

/-- How the driver loop of R318 ends says what state it leaves: halted only with `running = 0`, refused only
with the mark, stopped only where a step exists. The end `running`, the list of answers used up, is no end of
R318: it is the model's choice (log 13). -/
def Obligations.DriverEndsWhereItSays : Prop :=
  ∀ answers s t, (drive answers s = (t, .halted) → t.running = false) ∧
    (∀ reason, drive answers s = (t, .refused reason) → t.running = true ∧ t.refused = some reason) ∧
    (drive answers s = (t, .stopped) → t.running = true ∧ t.refused = none) ∧
    (drive answers s = (t, .running) → t.running = true ∧ t.refused = none)

/-! ### Memory -/

/-- Equal memories are equal data: two memory arrays in canonical form that read alike at every address
of the bus are the same list. The canonical form is the model's own (log 3). -/
def Obligations.CanonicalMemoryIsExtensional : Prop :=
  ∀ m m', Memory.wf m = true → Memory.wf m' = true →
    (∀ a < 65536, Memory.read m a = Memory.read m' a) → m = m'

/-- R52: `Write16` then `Read16` gives the value back at every address, 0xFFFF among them, the low byte at
addr and the high byte at addr + 1, and changes no other byte. -/
def Obligations.Word16IsLittleEndian : Prop :=
  ∀ (s : State) (addr v : Word), Memory.wf s.mem = true →
    (s.write16 addr v).read8 addr = loByte v ∧
    (s.write16 addr v).read8 (addr + 1) = hiByte v ∧
    (s.write16 addr v).read16 addr = v ∧
    ∀ a, a ≠ addr → a ≠ addr + 1 → (s.write16 addr v).read8 a = s.read8 a

/-- EVERY BYTE OF MEMORY an instruction does not store to reads as before, `storeAddresses` giving the
stored addresses by the expressions the meanings use, and none for a form that stores nothing. -/
def Obligations.OnlyStoredBytesChange : Prop :=
  ∀ i s t, exec i s = .next t → ∀ a, a ∉ storeAddresses i s → t.read8 a = s.read8 a

/-- R64: a store into the byte the next fetch reads changes the next instruction. LD (HL),A with HL at the
following address, then a step. -/
def Obligations.StoreIsSeenByNextFetch : Prop :=
  ∀ s, Memory.wf s.mem = true → s.running = true → s.refused = none → s.hl = s.pc + 1 →
    ∃ t, exec (Instr.ldHlR .a) s = .next t ∧
      step t = exec (decodeAt s.params.cbPrefix s.a (s.read8 (s.pc + 2)) (s.read8 (s.pc + 3))) t

/-! ### Registers and flags -/

/-- R25: F is the packing of the four flags, its low nibble 0, in every state. -/
def Obligations.FIsThePackedFlags : Prop :=
  ∀ s : State, s.f.toNat =
    s.fz.toNat * 128 + s.fn.toNat * 64 + s.fh.toNat * 32 + s.fc.toNat * 16

/-- R21, R22: a pair written reads back, high byte in the first letter. AF drops bits 3 to 0. -/
def Obligations.PairViewsReadBack : Prop :=
  ∀ (s : State) (v : Word),
    ((s.setBc v).bc = v ∧ (s.setBc v).b = hiByte v ∧ (s.setBc v).c = loByte v) ∧
    ((s.setDe v).de = v ∧ (s.setDe v).d = hiByte v ∧ (s.setDe v).e = loByte v) ∧
    ((s.setHl v).hl = v ∧ (s.setHl v).h = hiByte v ∧ (s.setHl v).l = loByte v) ∧
    ((s.setAf v).af = v &&& 0xFFF0 ∧ (s.setAf v).a = hiByte v)

/-! ### 8-bit ALU -/

/-- ADD: R133, R134, R135. -/
def Obligations.AddResultAndFlags : Prop :=
  AluRule .add fun s b =>
    { s with
      a := s.a + b
      fz := decide (s.a + b = 0)
      fn := false
      fh := decide (s.a.toNat % 16 + b.toNat % 16 > 0xF)
      fc := decide (s.a.toNat + b.toNat > 0xFF) }

/-- ADC, the carry folded into every sum: R136, R137, R138, R132. -/
def Obligations.AdcResultAndFlags : Prop :=
  AluRule .adc fun s b =>
    let sum := s.a.toNat + b.toNat + s.fc.toNat
    { s with
      a := BitVec.ofNat 8 sum
      fz := decide (sum % 256 = 0)
      fn := false
      fh := decide (s.a.toNat % 16 + b.toNat % 16 + s.fc.toNat > 0xF)
      fc := decide (sum > 0xFF) }

/-- SUB: R139, R140, R141. -/
def Obligations.SubResultAndFlags : Prop :=
  AluRule .sub fun s b =>
    { s with
      a := s.a - b
      fz := decide (s.a = b)
      fn := true
      fh := decide (s.a.toNat % 16 < b.toNat % 16)
      fc := decide (s.a.toNat < b.toNat) }

/-- SBC, the borrow folded into every comparison: R142, R143, R144, R132. -/
def Obligations.SbcResultAndFlags : Prop :=
  AluRule .sbc fun s b =>
    let res := s.a - b - BitVec.ofNat 8 s.fc.toNat
    { s with
      a := res
      fz := decide (res = 0)
      fn := true
      fh := decide (s.a.toNat % 16 < b.toNat % 16 + s.fc.toNat)
      fc := decide (s.a.toNat < b.toNat + s.fc.toNat) }

/-- AND, XOR, OR: R145 to R153. -/
def Obligations.LogicResultAndFlags : Prop :=
  AluRule .and (logicEffect (· &&& ·) true) ∧
  AluRule .xor (logicEffect (· ^^^ ·) false) ∧
  AluRule .or (logicEffect (· ||| ·) false)

/-- CP: the flags of SUB, A not written: R154, R155, R156. -/
def Obligations.CpFlagsOnly : Prop :=
  AluRule .cp fun s b =>
    { s with
      fz := decide (s.a = b)
      fn := true
      fh := decide (s.a.toNat % 16 < b.toNat % 16)
      fc := decide (s.a.toNat < b.toNat) }

/-- INC of a register and of (HL), under both settings of INCDEC_CARRY: R157, R158, R159. -/
def Obligations.IncByteResultAndFlags : Prop :=
  let flags (s t : State) (v : Byte) : State :=
    { t with
      fz := decide (v = 0xFF)
      fn := false
      fh := decide (v.toNat % 16 = 0xF)
      fc := match s.params.incDecCarry with
        | .preserve => s.fc
        | .derive => decide (v = 0xFF) }
  (∀ s r, exec (Instr.inc8 (.reg r)) s =
    .next ((flags s (s.setReg r (s.reg r + 1)) (s.reg r)).ended (s.pc + 1))) ∧
  (∀ s, exec (Instr.inc8 .indHl) s =
    .next ((flags s (s.write8 s.hl (s.read8 s.hl + 1)) (s.read8 s.hl)).ended (s.pc + 1))) ∧
  (∀ o, encode (Instr.inc8 o) = [0x04 + 8 * o.code])

/-- DEC of a register and of (HL), under both settings of INCDEC_CARRY: R157, R160, R161. -/
def Obligations.DecByteResultAndFlags : Prop :=
  let flags (s t : State) (v : Byte) : State :=
    { t with
      fz := decide (v = 0x01)
      fn := true
      fh := decide (v.toNat % 16 = 0)
      fc := match s.params.incDecCarry with
        | .preserve => s.fc
        | .derive => decide (v = 0x00) }
  (∀ s r, exec (Instr.dec8 (.reg r)) s =
    .next ((flags s (s.setReg r (s.reg r - 1)) (s.reg r)).ended (s.pc + 1))) ∧
  (∀ s, exec (Instr.dec8 .indHl) s =
    .next ((flags s (s.write8 s.hl (s.read8 s.hl - 1)) (s.read8 s.hl)).ended (s.pc + 1))) ∧
  (∀ o, encode (Instr.dec8 o) = [0x05 + 8 * o.code])

/-! ### Accumulator and flag operations -/

/-- RLCA, RRCA, RLA, RRA, in arithmetic on the value of A: R170 to R173. -/
def Obligations.RotatesOfA : Prop :=
  let rotated (s : State) (value : Nat) (carry : Bool) : State :=
    { s with a := BitVec.ofNat 8 value, fz := false, fn := false, fh := false, fc := carry }
  ∀ s : State,
    exec .rlca s = .next ((rotated s (2 * s.a.toNat + s.a.toNat / 128)
      (decide (s.a.toNat ≥ 128))).ended (s.pc + 1)) ∧
    exec .rrca s = .next ((rotated s (s.a.toNat / 2 + 128 * (s.a.toNat % 2))
      (decide (s.a.toNat % 2 = 1))).ended (s.pc + 1)) ∧
    exec .rla s = .next ((rotated s (2 * s.a.toNat + s.fc.toNat)
      (decide (s.a.toNat ≥ 128))).ended (s.pc + 1)) ∧
    exec .rra s = .next ((rotated s (s.a.toNat / 2 + 128 * s.fc.toNat)
      (decide (s.a.toNat % 2 = 1))).ended (s.pc + 1)) ∧
    encode .rlca = [0x07] ∧ encode .rrca = [0x0F] ∧ encode .rla = [0x17] ∧ encode .rra = [0x1F]

/-- DAA as one correction byte added or subtracted: R174 (the spec's decision D25). -/
def Obligations.DaaCorrection : Prop :=
  ∀ s : State,
    let high := s.fc || (!s.fn && decide (s.a.toNat > 0x99))
    let low := s.fh || (!s.fn && decide (s.a.toNat % 16 > 0x09))
    let corr : Byte := (if high then 0x60 else 0) + (if low then 0x06 else 0)
    let res := if s.fn then s.a - corr else s.a + corr
    exec .daa s =
      .next ({ s with a := res, fz := decide (res = 0), fh := false, fc := high }.ended (s.pc + 1)) ∧
    encode .daa = [0x27]

/-- What DAA is for: after ADC (ADD when FC = 0) or SBC (SUB) of two packed decimal numbers it leaves the
packed decimal sum or difference modulo 100, the carry the decimal carry or borrow. -/
def Obligations.DaaGivesDecimalArithmetic : Prop :=
  ∀ (s : State) (x y : Nat), x < 100 → y < 100 → s.a = bcd x →
    (∃ t u, exec (.adcAD8 (bcd y)) s = .next t ∧ exec .daa t = .next u ∧
      u.a = bcd ((x + y + s.fc.toNat) % 100) ∧ u.fc = decide (x + y + s.fc.toNat ≥ 100)) ∧
    (∃ t u, exec (.sbcAD8 (bcd y)) s = .next t ∧ exec .daa t = .next u ∧
      u.a = bcd ((x + 100 - y - s.fc.toNat) % 100) ∧ u.fc = decide (x < y + s.fc.toNat))

/-- CPL, SCF, CCF: R175, R176, R177. -/
def Obligations.CplScfCcf : Prop :=
  ∀ s : State,
    exec .cpl s = .next ({ s with a := 0xFF - s.a, fn := true, fh := true }.ended (s.pc + 1)) ∧
    exec .scf s = .next ({ s with fn := false, fh := false, fc := true }.ended (s.pc + 1)) ∧
    exec .ccf s = .next ({ s with fn := false, fh := false, fc := !s.fc }.ended (s.pc + 1)) ∧
    encode .cpl = [0x2F] ∧ encode .scf = [0x37] ∧ encode .ccf = [0x3F]

/-! ### 16-bit arithmetic -/

/-- INC rr and DEC rr change no flag; ADD HL,rr keeps Z, takes H from bit 11 and C from bit 15: R190, R191,
R192. -/
def Obligations.PairArithmetic : Prop :=
  (∀ s p, exec (Instr.incPair p) s = .next ((s.setPair p (s.pair p + 1)).ended (s.pc + 1))) ∧
  (∀ s p, exec (Instr.decPair p) s = .next ((s.setPair p (s.pair p - 1)).ended (s.pc + 1))) ∧
  (∀ s p, exec (Instr.addHlPair p) s =
    .next ({ s with
      h := hiByte (s.hl + s.pair p)
      l := loByte (s.hl + s.pair p)
      fn := false
      fh := decide (s.hl.toNat % 4096 + (s.pair p).toNat % 4096 > 0x0FFF)
      fc := decide (s.hl.toNat + (s.pair p).toNat > 0xFFFF) }.ended (s.pc + 1))) ∧
  (∀ p, encode (Instr.incPair p) = [0x03 + 16 * p.code]) ∧
  (∀ p, encode (Instr.decPair p) = [0x0B + 16 * p.code]) ∧
  (∀ p, encode (Instr.addHlPair p) = [0x09 + 16 * p.code])

/-- ADD SP,e8 and LD HL,SP+e8: a signed sum, flags of the unsigned low-byte addition: R193, R194. -/
def Obligations.SpPlusOffset : Prop :=
  let flags (s t : State) (u : Byte) : State :=
    { t with
      fz := false
      fn := false
      fh := decide (s.sp.toNat % 16 + u.toNat % 16 > 0xF)
      fc := decide (s.sp.toNat % 256 + u.toNat > 0xFF) }
  (∀ s u, exec (.addSpE8 u) s =
    .next ((flags s { s with sp := offset s.sp u } u).ended (s.pc + 2))) ∧
  (∀ s u, exec (.ldHlSpE8 u) s =
    .next ((flags s { s with h := hiByte (offset s.sp u), l := loByte (offset s.sp u) } u).ended
      (s.pc + 2))) ∧
  (∀ u, encode (.addSpE8 u) = [0xE8, u]) ∧ (∀ u, encode (.ldHlSpE8 u) = [0xF8, u])

/-! ### Control transfer -/

/-- JR e8 and JR cc,e8: R201, R202. -/
def Obligations.RelativeJumps : Prop :=
  (∀ s e, exec (.jrE8 e) s = .next (s.ended (offset (s.pc + 2) e))) ∧
  (∀ s cc e, Holds cc s → exec (Instr.jrCc cc e) s = .next (s.ended (offset (s.pc + 2) e))) ∧
  (∀ s cc e, ¬ Holds cc s → exec (Instr.jrCc cc e) s = .next (s.ended (s.pc + 2))) ∧
  (∀ e, encode (.jrE8 e) = [0x18, e]) ∧
  (∀ cc e, encode (Instr.jrCc cc e) = [0x20 + 8 * cc.code, e])

/-- JP a16, JP cc,a16 and JP HL: R203, R204, R205. -/
def Obligations.AbsoluteJumps : Prop :=
  (∀ s nn, exec (.jpA16 nn) s = .next (s.ended nn)) ∧
  (∀ s cc nn, Holds cc s → exec (Instr.jpCc cc nn) s = .next (s.ended nn)) ∧
  (∀ s cc nn, ¬ Holds cc s → exec (Instr.jpCc cc nn) s = .next (s.ended (s.pc + 3))) ∧
  (∀ s, exec .jpHl s = .next (s.ended (cat s.h s.l))) ∧
  (∀ nn, encode (.jpA16 nn) = [0xC3, loByte nn, hiByte nn]) ∧
  (∀ cc nn, encode (Instr.jpCc cc nn) = [0xC2 + 8 * cc.code, loByte nn, hiByte nn]) ∧
  encode .jpHl = [0xE9]

/-- CALL a16, CALL cc,a16 and RST t: the address of the next instruction is pushed and PC is a16 or t * 8, or
the condition fails and PC moves on: R206, R207, R210. -/
def Obligations.CallsAndRestarts : Prop :=
  (∀ s nn, Memory.wf s.mem = true →
    ∃ t, Pushed s (s.pc + 3) t ∧ exec (.callA16 nn) s = .next (t.ended nn)) ∧
  (∀ s cc nn, Memory.wf s.mem = true → Holds cc s →
    ∃ t, Pushed s (s.pc + 3) t ∧ exec (Instr.callCc cc nn) s = .next (t.ended nn)) ∧
  (∀ s cc nn, ¬ Holds cc s → exec (Instr.callCc cc nn) s = .next (s.ended (s.pc + 3))) ∧
  (∀ nn, encode (.callA16 nn) = [0xCD, loByte nn, hiByte nn]) ∧
  (∀ s t, Memory.wf s.mem = true →
    ∃ u, Pushed s (s.pc + 1) u ∧ exec (Instr.rst t) s = .next (u.ended (BitVec.ofNat 16 (t.val * 8)))) ∧
  (∀ cc nn, encode (Instr.callCc cc nn) = [0xC4 + 8 * cc.code, loByte nn, hiByte nn]) ∧
  (∀ t, encode (Instr.rst t) = [0xC7 + 8 * t.code])

/-- RET, RET cc and RETI, which also sets IME: R208, R209, R211. -/
def Obligations.Returns : Prop :=
  let popped (s : State) : State := { s with sp := s.sp + 2 }
  let target (s : State) : Word := cat (s.read8 (s.sp + 1)) (s.read8 s.sp)
  (∀ s, exec .ret s = .next ((popped s).ended (target s))) ∧
  (∀ s cc, Holds cc s → exec (Instr.retCc cc) s = .next ((popped s).ended (target s))) ∧
  (∀ s cc, ¬ Holds cc s → exec (Instr.retCc cc) s = .next (s.ended (s.pc + 1))) ∧
  (∀ s, exec .reti s = .next ({ popped s with ime := true }.ended (target s))) ∧
  encode .ret = [0xC9] ∧ encode .reti = [0xD9] ∧
  (∀ cc, encode (Instr.retCc cc) = [0xC0 + 8 * cc.code])

/-- CALL or RST, then RET, comes back to the instruction after it with SP restored (R237, item 3). -/
def Obligations.CallThenReturn : Prop :=
  ∀ s, Memory.wf s.mem = true →
    (∀ nn, ∃ t u, exec (.callA16 nn) s = .next t ∧ exec .ret t = .next u ∧
      u.pc = s.pc + 3 ∧ u.sp = s.sp) ∧
    (∀ v, ∃ t u, exec (Instr.rst v) s = .next t ∧ exec .ret t = .next u ∧
      u.pc = s.pc + 1 ∧ u.sp = s.sp)

/-! ### Stack -/

/-- PUSH rr: R232. PUSH AF pushes A and the packed flags. -/
def Obligations.PushPair : Prop :=
  (∀ s, Memory.wf s.mem = true →
    (∃ t, Pushed s (cat s.b s.c) t ∧ exec .pushBc s = .next (t.ended (s.pc + 1))) ∧
    (∃ t, Pushed s (cat s.d s.e) t ∧ exec .pushDe s = .next (t.ended (s.pc + 1))) ∧
    (∃ t, Pushed s (cat s.h s.l) t ∧ exec .pushHl s = .next (t.ended (s.pc + 1))) ∧
    (∃ t, Pushed s (cat s.a s.f) t ∧ exec .pushAf s = .next (t.ended (s.pc + 1)))) ∧
  (∀ p, encode (Instr.push p) = [0xC5 + 16 * p.code])

/-- POP rr and POP AF: low byte at SP, high byte at SP + 1, SP grows by 2. POP AF sets the flags from bits
7 to 4 of the low byte: R233, R234. -/
def Obligations.PopPair : Prop :=
  (∀ s : State,
    let lo := s.read8 s.sp
    let hi := s.read8 (s.sp + 1)
    exec .popBc s = .next ({ s with b := hi, c := lo, sp := s.sp + 2 }.ended (s.pc + 1)) ∧
    exec .popDe s = .next ({ s with d := hi, e := lo, sp := s.sp + 2 }.ended (s.pc + 1)) ∧
    exec .popHl s = .next ({ s with h := hi, l := lo, sp := s.sp + 2 }.ended (s.pc + 1)) ∧
    exec .popAf s =
      .next ({ s with
        a := hi
        fz := lo.getLsbD 7
        fn := lo.getLsbD 6
        fh := lo.getLsbD 5
        fc := lo.getLsbD 4
        sp := s.sp + 2 }.ended (s.pc + 1))) ∧
  (∀ p, encode (Instr.pop p) = [0xC1 + 16 * p.code])

/-- PUSH then POP of the same pair restores the pair and SP, for every value and every SP, and the pop
changes no byte (R237, items 1, 2 and 4). -/
def Obligations.PushThenPopRestores : Prop :=
  ∀ s p, Memory.wf s.mem = true →
    ∃ t u, exec (Instr.push p) s = .next t ∧ exec (Instr.pop p) t = .next u ∧
      u.stackPair p = s.stackPair p ∧ u.sp = s.sp ∧ ∀ a, u.read8 a = t.read8 a

/-- LD rr,d16 (the first immediate byte to the second letter, or SP), LD SP,HL and LD (a16),SP, little-endian:
R245, R235, R236. -/
def Obligations.SixteenBitLoads : Prop :=
  (∀ s nn,
    exec (.ldBcD16 nn) s = .next ({ s with b := hiByte nn, c := loByte nn }.ended (s.pc + 3)) ∧
    exec (.ldDeD16 nn) s = .next ({ s with d := hiByte nn, e := loByte nn }.ended (s.pc + 3)) ∧
    exec (.ldHlD16 nn) s = .next ({ s with h := hiByte nn, l := loByte nn }.ended (s.pc + 3)) ∧
    exec (.ldSpD16 nn) s = .next ({ s with sp := nn }.ended (s.pc + 3))) ∧
  (∀ p nn, encode (Instr.ldPairD16 p nn) = [0x01 + 16 * p.code, loByte nn, hiByte nn]) ∧
  (∀ s, exec .ldSpHl s = .next ({ s with sp := cat s.h s.l }.ended (s.pc + 1))) ∧
  (∀ s nn, exec (.ldIndA16Sp nn) s =
    .next (((s.write8 nn (loByte s.sp)).write8 (nn + 1) (hiByte s.sp)).ended (s.pc + 3))) ∧
  encode .ldSpHl = [0xF9] ∧ (∀ nn, encode (.ldIndA16Sp nn) = [0x08, loByte nn, hiByte nn])

/-! ### Loads -/

/-- The register and (HL) loads: R240, R241, R242, R243, R244. -/
def Obligations.RegisterAndHlLoads : Prop :=
  (∀ s dst src, exec (Instr.ldRR dst src) s = .next ((s.setReg dst (s.reg src)).ended (s.pc + 1))) ∧
  (∀ s dst, exec (Instr.ldRHl dst) s = .next ((s.setReg dst (s.read8 s.hl)).ended (s.pc + 1))) ∧
  (∀ s src, exec (Instr.ldHlR src) s = .next ((s.write8 s.hl (s.reg src)).ended (s.pc + 1))) ∧
  (∀ s dst n, exec (Instr.ldRD8 dst n) s = .next ((s.setReg dst n).ended (s.pc + 2))) ∧
  (∀ s n, exec (.ldIndHlD8 n) s = .next ((s.write8 s.hl n).ended (s.pc + 2))) ∧
  (∀ dst src, encode (Instr.ldRR dst src) = [0x40 + 8 * dst.code + src.code]) ∧
  (∀ dst, encode (Instr.ldRHl dst) = [0x46 + 8 * dst.code]) ∧
  (∀ src, encode (Instr.ldHlR src) = [0x70 + src.code]) ∧
  (∀ dst n, encode (Instr.ldRD8 dst n) = [0x06 + 8 * dst.code, n]) ∧
  (∀ n, encode (.ldIndHlD8 n) = [0x36, n])

/-- The stores of A: R246 to R249, R254, R256, R258. -/
def Obligations.StoresOfA : Prop :=
  let stored (s : State) (addr : Word) : State := s.write8 addr s.a
  (∀ s : State,
    exec .ldIndBcA s = .next ((stored s (cat s.b s.c)).ended (s.pc + 1)) ∧
    exec .ldIndDeA s = .next ((stored s (cat s.d s.e)).ended (s.pc + 1)) ∧
    exec .ldIndHlIncA s = .next (((stored s s.hl).setHl (s.hl + 1)).ended (s.pc + 1)) ∧
    exec .ldIndHlDecA s = .next (((stored s s.hl).setHl (s.hl - 1)).ended (s.pc + 1)) ∧
    exec .ldIndCA s = .next ((stored s (cat 0xFF s.c)).ended (s.pc + 1))) ∧
  (∀ s nn, exec (.ldIndA16A nn) s = .next ((stored s nn).ended (s.pc + 3))) ∧
  (∀ s n, exec (.ldhIndA8A n) s = .next ((stored s (cat 0xFF n)).ended (s.pc + 2))) ∧
  encode .ldIndBcA = [0x02] ∧ encode .ldIndDeA = [0x12] ∧ encode .ldIndHlIncA = [0x22] ∧
  encode .ldIndHlDecA = [0x32] ∧ encode .ldIndCA = [0xE2] ∧
  (∀ nn, encode (.ldIndA16A nn) = [0xEA, loByte nn, hiByte nn]) ∧
  (∀ n, encode (.ldhIndA8A n) = [0xE0, n])

/-- The loads of A: R250 to R253, R255, R257, R259. -/
def Obligations.LoadsOfA : Prop :=
  let loaded (s : State) (addr : Word) : State := { s with a := s.read8 addr }
  (∀ s : State,
    exec .ldAIndBc s = .next ((loaded s (cat s.b s.c)).ended (s.pc + 1)) ∧
    exec .ldAIndDe s = .next ((loaded s (cat s.d s.e)).ended (s.pc + 1)) ∧
    exec .ldAIndHlInc s = .next (((loaded s s.hl).setHl (s.hl + 1)).ended (s.pc + 1)) ∧
    exec .ldAIndHlDec s = .next (((loaded s s.hl).setHl (s.hl - 1)).ended (s.pc + 1)) ∧
    exec .ldAIndC s = .next ((loaded s (cat 0xFF s.c)).ended (s.pc + 1))) ∧
  (∀ s nn, exec (.ldAIndA16 nn) s = .next ((loaded s nn).ended (s.pc + 3))) ∧
  (∀ s n, exec (.ldhAIndA8 n) s = .next ((loaded s (cat 0xFF n)).ended (s.pc + 2))) ∧
  encode .ldAIndBc = [0x0A] ∧ encode .ldAIndDe = [0x1A] ∧ encode .ldAIndHlInc = [0x2A] ∧
  encode .ldAIndHlDec = [0x3A] ∧ encode .ldAIndC = [0xF2] ∧
  (∀ nn, encode (.ldAIndA16 nn) = [0xFA, loByte nn, hiByte nn]) ∧
  (∀ n, encode (.ldhAIndA8 n) = [0xF0, n])

/-! ### The CB map -/

/-- RLC, RRC, RL, RR, SLA, SRA, SWAP, SRL on a register and on (HL), in arithmetic on the operand's value:
R281 to R288. -/
def Obligations.ShiftsAndRotates : Prop :=
  let result (op : ShiftOp) (v c : Nat) : Nat :=
    match op with
    | .rlc => (2 * v + v / 128) % 256
    | .rrc => v / 2 + 128 * (v % 2)
    | .rl => (2 * v + c) % 256
    | .rr => v / 2 + 128 * c
    | .sla => 2 * v % 256
    | .sra => v / 2 + 128 * (v / 128)
    | .swap => v % 16 * 16 + v / 16
    | .srl => v / 2
  let carry (op : ShiftOp) (v : Nat) : Bool :=
    match op with
    | .rlc | .rl | .sla => decide (v ≥ 128)
    | .rrc | .rr | .sra | .srl => decide (v % 2 = 1)
    | .swap => false
  let flags (op : ShiftOp) (s t : State) (v : Byte) : State :=
    { t with
      fz := decide (result op v.toNat s.fc.toNat = 0)
      fn := false
      fh := false
      fc := carry op v.toNat }
  (∀ s op r, exec (Instr.shift op (.reg r)) s =
    .next ((flags op s (s.setReg r (BitVec.ofNat 8 (result op (s.reg r).toNat s.fc.toNat)))
      (s.reg r)).ended (s.pc + 2))) ∧
  (∀ s op, exec (Instr.shift op .indHl) s =
    .next ((flags op s (s.write8 s.hl (BitVec.ofNat 8 (result op (s.read8 s.hl).toNat s.fc.toNat)))
      (s.read8 s.hl)).ended (s.pc + 2))) ∧
  (∀ op o, encode (Instr.shift op o) = [0xCB, 8 * op.code + o.code])

/-- BIT b,r: R289. -/
def Obligations.BitTests : Prop :=
  let tested (s : State) (v : Byte) (b : Idx8) : State :=
    { s with fz := decide (v.toNat / 2 ^ b.val % 2 = 0), fn := false, fh := true }
  (∀ s b r, exec (Instr.bit b (.reg r)) s = .next ((tested s (s.reg r) b).ended (s.pc + 2))) ∧
  (∀ s b, exec (Instr.bit b .indHl) s = .next ((tested s (s.read8 s.hl) b).ended (s.pc + 2))) ∧
  (∀ b o, encode (Instr.bit b o) = [0xCB, 0x40 + 8 * b.code + o.code])

/-- RES b,r and SET b,r: bit b of the operand becomes 0 or 1, every other bit and every flag stays: R290, R291. -/
def Obligations.BitResetsAndSets : Prop :=
  let withBit (v : Byte) (b : Idx8) (x : Bool) (w : Byte) : Prop :=
    ∀ k < 8, w.getLsbD k = if k = b.val then x else v.getLsbD k
  (∀ s b r, ∃ w, withBit (s.reg r) b false w ∧
    exec (Instr.res b (.reg r)) s = .next ((s.setReg r w).ended (s.pc + 2))) ∧
  (∀ s b, ∃ w, withBit (s.read8 s.hl) b false w ∧
    exec (Instr.res b .indHl) s = .next ((s.write8 s.hl w).ended (s.pc + 2))) ∧
  (∀ s b r, ∃ w, withBit (s.reg r) b true w ∧
    exec (Instr.set b (.reg r)) s = .next ((s.setReg r w).ended (s.pc + 2))) ∧
  (∀ s b, ∃ w, withBit (s.read8 s.hl) b true w ∧
    exec (Instr.set b .indHl) s = .next ((s.write8 s.hl w).ended (s.pc + 2))) ∧
  (∀ b o, encode (Instr.res b o) = [0xCB, 0x80 + 8 * b.code + o.code]) ∧
  (∀ b o, encode (Instr.set b o) = [0xCB, 0xC0 + 8 * b.code + o.code])

/-- The row 0xCB: refused under `CB_PREFIX = refuse`, and under `execute` it runs the instruction its second
byte selects: R109. -/
def Obligations.PrefixCbRefusesOrRunsTheCbMap : Prop :=
  (∀ s op2, s.params.cbPrefix = .refuse →
    exec (.prefixCb op2) s = .next { s with refused := some .cbPrefixRefused }) ∧
  (∀ s op2, s.params.cbPrefix = .execute →
    ∃ t, exec (.prefixCb op2) s = .next t ∧ exec (decodeCb op2) s = .next t) ∧
  (∀ op2, encode (.prefixCb op2) = [0xCB, op2] ∧ encode (decodeCb op2) = [0xCB, op2])

/-! ### System instructions -/

/-- NOP, HALT, and STOP in both its cases: R103, R104, R105. -/
def Obligations.NopHaltStop : Prop :=
  (∀ s, exec .nop s = .next (s.ended (s.pc + 1))) ∧
  (∀ s, exec .halt s = .next ({ s with running := false }.ended (s.pc + 1))) ∧
  (∀ s, exec (.stop 0x00) s = .next ({ s with running := false }.ended (s.pc + 2))) ∧
  (∀ s b, b ≠ 0x00 → exec (.stop b) s = .next { s with refused := some .stopNonZeroOperand }) ∧
  encode .nop = [0x00] ∧ encode .halt = [0x76] ∧ (∀ b, encode (.stop b) = [0x10, b])

/-- DI and EI: R106, R107. DI cancels a pending enable. EI's own step ends with the enable still pending,
unless one was pending before it: then IME is set now, by the end of the step (R102). -/
def Obligations.DiAndEi : Prop :=
  (∀ s : State, exec .di s = .next { s with pc := s.pc + 1, ime := false, imePending := false }) ∧
  (∀ s : State, s.imePending = false →
    exec .ei s = .next { s with pc := s.pc + 1, imePending := true }) ∧
  (∀ s : State, s.imePending = true →
    exec .ei s = .next { s with pc := s.pc + 1, ime := true, imePending := false }) ∧
  encode .di = [0xF3] ∧ encode .ei = [0xFB]

/-- The one delay: IME is set at the end of the instruction after EI, whatever it is, unless that is DI or
is refused (R342, R107, R102). That an unknown opcode under `stuck` is no exception, where R301 says nothing
changes, is the model's reading (log 7). An enable pending before EI is in `Obligations.DiAndEi`. -/
def Obligations.EiTakesEffectAfterNextInstruction : Prop :=
  ∀ i s t u, exec .ei s = .next t → s.imePending = false → exec i t = .next u → i ≠ .di →
    t.refused = none → u.refused = none →
    t.ime = s.ime ∧ u.ime = true ∧ u.imePending = false

/-- The unknown opcodes under both policies: R108. That a pending EI takes effect at the end of the `stuck`
self-loop, where R301 says nothing changes, is the model's reading of R102 (log 7). That the log grows at its
end is log 14. -/
def Obligations.UnknownOpcodes : Prop :=
  (∀ s u, s.params.unknownOpcode = .skip →
    exec (Instr.unknown u) s =
      .next ({ s with events := s.events ++ [Event.mk s.pc u.byte] }.ended (s.pc + 1))) ∧
  (∀ s u, s.params.unknownOpcode = .stuck → exec (Instr.unknown u) s = .next (s.ended s.pc)) ∧
  (∀ u, encode (Instr.unknown u) = [u.byte]) ∧
  (∀ b, b ∈ unknownBytes ↔ ∃ u : UnknownOp, u.byte = b)

/-- Under `stuck` an unknown opcode at PC is a self-loop: however often the driver loop is told to go on, the
run has not ended and the state is the same (R108). The end `running` of a finite list of answers is the model's
choice (log 13). A pending EI is in `Obligations.UnknownOpcodes`. -/
def Obligations.StuckOpcodeLoopsForever : Prop :=
  ∀ (s : State) (n : Nat), s.running = true → s.refused = none → s.imePending = false →
    s.params.unknownOpcode = .stuck → s.read8 s.pc ∈ unknownBytes →
    drive (List.replicate n false) s = (s, .running)

/-! ### Rules about the whole machine -/

/-- R30: `running` starts at 1, becomes 0 only by HALT or by STOP with the zero operand, and never becomes
1 again. -/
def Obligations.OnlyHaltAndStopEndTheRun : Prop :=
  State.reset.running = true ∧
  ∀ i s t, exec i s = .next t →
    (s.running = true → t.running = false → i = .halt ∨ i = .stop 0x00) ∧
    (s.running = false → t.running = false)

/-- R31: IME changes only to 0 by DI, to 1 by RETI, or to 1 by an EI of the step before. -/
def Obligations.OnlyDiEiRetiWriteIme : Prop :=
  ∀ i s t, exec i s = .next t → t.ime ≠ s.ime →
    (i = .di ∧ t.ime = false) ∨ (i = .reti ∧ t.ime = true) ∨ (s.imePending = true ∧ t.ime = true)

/-- R31, R33: no instruction reads IME, its pending bit or the log: changing them changes nothing else of
the next state. -/
def Obligations.ImeAndLogAreNeverRead : Prop :=
  ∀ (i : Instr) (s t : State) (ime pending : Bool) (log : List Event), exec i s = .next t →
    ∃ u : State, exec i { s with ime := ime, imePending := pending, events := log } = .next u ∧
      { u with ime := t.ime, imePending := t.imePending, events := t.events } = t

/-- R33: the log starts empty, and grows by (pc, op) at an unknown opcode under `skip` and nowhere else. That
it grows at its end is log 14. -/
def Obligations.OnlyUnknownOpcodesAreLogged : Prop :=
  State.reset.events = [] ∧
  ∀ i s t, exec i s = .next t →
    t.events = s.events ∨
    ∃ u, i = Instr.unknown u ∧ s.params.unknownOpcode = .skip ∧
      t.events = s.events ++ [Event.mk s.pc u.byte]

/-- R34, R105, R109: a step that sets the mark writes nothing else, and only PREFIX_CB under `refuse` and
STOP with a non-zero operand set it. -/
def Obligations.RefusalWritesOnlyTheMark : Prop :=
  ∀ i s t, exec i s = .next t → t.refused ≠ s.refused →
    t = { s with refused := t.refused } ∧
    ((∃ op2, i = .prefixCb op2 ∧ s.params.cbPrefix = .refuse ∧ t.refused = some .cbPrefixRefused) ∨
     (∃ b, i = .stop b ∧ b ≠ 0x00 ∧ t.refused = some .stopNonZeroOperand))
end

