-- ==== Sys2Proof/Laws/Decode.lean ====
section
/-! SUPPORT. What the decoder looks at: which immediates a first byte has, and that a byte past an
instruction's length changes nothing. -/

namespace Sys2Proof

/-- A claim about every byte, value by value. -/
theorem forall_byte {P : Byte → Prop} (h : ∀ n : Fin 256, P (BitVec.ofFin n)) (b : Byte) : P b := h b.toFin

theorem immLen_cases (op : Byte) : immLen op = 0 ∨ immLen op = 1 ∨ immLen op = 2 := by
  unfold immLen
  split
  · exact .inr (.inr rfl)
  · split
    · exact .inr (.inl rfl)
    · exact .inl rfl

/-- The immediate length by the fields of the first byte. -/
def immLenOfFields (x : Idx4) (y z : Idx8) : Nat :=
  match x, z, y with
  | .i0, .i0, .i0 => 0
  | .i0, .i0, .i1 => 2
  | .i0, .i0, _ => 1
  | .i0, .i1, .i0 => 2
  | .i0, .i1, .i2 => 2
  | .i0, .i1, .i4 => 2
  | .i0, .i1, .i6 => 2
  | .i0, .i6, _ => 1
  | .i3, .i0, .i4 => 1
  | .i3, .i0, .i5 => 1
  | .i3, .i0, .i6 => 1
  | .i3, .i0, .i7 => 1
  | .i3, .i2, .i4 => 0
  | .i3, .i2, .i6 => 0
  | .i3, .i2, _ => 2
  | .i3, .i3, .i0 => 2
  | .i3, .i3, .i1 => 1
  | .i3, .i4, .i0 => 2
  | .i3, .i4, .i1 => 2
  | .i3, .i4, .i2 => 2
  | .i3, .i4, .i3 => 2
  | .i3, .i5, .i1 => 2
  | .i3, .i6, _ => 1
  | _, _, _ => 0

theorem immLen_fields (op : Byte) : immLen op = immLenOfFields (xField op) (yField op) (zField op) := by
  revert op
  apply forall_byte
  decide +kernel

/-- A first byte looks at the immediates R86 gives it and at no byte more (R64, R86). -/
theorem decodeFirst_looks_at (op b1 b2 : Byte) : decodeFirst op b1 b2 =
    decodeFirst op (if immLen op = 0 then 0 else b1) (if immLen op = 2 then b2 else 0) := by
  rw [immLen_fields]
  unfold decodeFirst decodeX0 decodeX3
  generalize yField op = y
  generalize zField op = z
  cases xField op
  · cases z <;> cases y <;> rfl
  · rfl
  · rfl
  · cases z <;> cases y <;> rfl

theorem decodeFirst_of_immLen_zero {op : Byte} (h : immLen op = 0) (b1 b2 : Byte) :
    decodeFirst op b1 b2 = decodeFirst op 0 0 := by
  rw [decodeFirst_looks_at, h]
  rfl

theorem decodeFirst_of_immLen_one {op : Byte} (h : immLen op = 1) (b1 b2 : Byte) :
    decodeFirst op b1 b2 = decodeFirst op b1 0 := by
  rw [decodeFirst_looks_at, h]
  rfl

/-- The 11 unknown first bytes decode to the unknown rows, under both settings (R88). -/
theorem decodeAt_unknown {op : Byte} (h : op ∈ unknownBytes) (cb : CbPrefix) (b1 b2 : Byte) :
    ∃ u : UnknownOp, u.byte = op ∧ decodeAt cb op b1 b2 = Instr.unknown u := by
  simp only [unknownBytes, List.mem_cons, List.not_mem_nil, or_false] at h
  rcases h with h | h | h | h | h | h | h | h | h | h | h <;> subst h
  exacts [⟨.xD3, rfl, rfl⟩, ⟨.xDB, rfl, rfl⟩, ⟨.xDD, rfl, rfl⟩, ⟨.xE3, rfl, rfl⟩, ⟨.xE4, rfl, rfl⟩,
    ⟨.xEB, rfl, rfl⟩, ⟨.xEC, rfl, rfl⟩, ⟨.xED, rfl, rfl⟩, ⟨.xF4, rfl, rfl⟩, ⟨.xFC, rfl, rfl⟩, ⟨.xFD, rfl, rfl⟩]

theorem UnknownOp.byte_mem (u : UnknownOp) : u.byte ∈ unknownBytes := by cases u <;> decide

end Sys2Proof
end

