-- ==== Sys2Proof/Laws/State.lean ====
section
/-! SUPPORT. One lemma per field per update of the state, each by rfl, so that no later proof unfolds a
record update, and the laws of the register file. -/

namespace Sys2Proof.Machine

/-! ### setFlags -/

@[simp] theorem State.setFlags_a (s : State) (z n h c : Bool) :
    (s.setFlags z n h c).a = s.a := rfl
@[simp] theorem State.setFlags_b (s : State) (z n h c : Bool) :
    (s.setFlags z n h c).b = s.b := rfl
@[simp] theorem State.setFlags_c (s : State) (z n h c : Bool) :
    (s.setFlags z n h c).c = s.c := rfl
@[simp] theorem State.setFlags_d (s : State) (z n h c : Bool) :
    (s.setFlags z n h c).d = s.d := rfl
@[simp] theorem State.setFlags_e (s : State) (z n h c : Bool) :
    (s.setFlags z n h c).e = s.e := rfl
@[simp] theorem State.setFlags_h (s : State) (z n h c : Bool) :
    (s.setFlags z n h c).h = s.h := rfl
@[simp] theorem State.setFlags_l (s : State) (z n h c : Bool) :
    (s.setFlags z n h c).l = s.l := rfl
@[simp] theorem State.setFlags_fz (s : State) (z n h c : Bool) :
    (s.setFlags z n h c).fz = z := rfl
@[simp] theorem State.setFlags_fn (s : State) (z n h c : Bool) :
    (s.setFlags z n h c).fn = n := rfl
@[simp] theorem State.setFlags_fh (s : State) (z n h c : Bool) :
    (s.setFlags z n h c).fh = h := rfl
@[simp] theorem State.setFlags_fc (s : State) (z n h c : Bool) :
    (s.setFlags z n h c).fc = c := rfl
@[simp] theorem State.setFlags_sp (s : State) (z n h c : Bool) :
    (s.setFlags z n h c).sp = s.sp := rfl
@[simp] theorem State.setFlags_pc (s : State) (z n h c : Bool) :
    (s.setFlags z n h c).pc = s.pc := rfl
@[simp] theorem State.setFlags_running (s : State) (z n h c : Bool) :
    (s.setFlags z n h c).running = s.running := rfl
@[simp] theorem State.setFlags_ime (s : State) (z n h c : Bool) :
    (s.setFlags z n h c).ime = s.ime := rfl
@[simp] theorem State.setFlags_imePending (s : State) (z n h c : Bool) :
    (s.setFlags z n h c).imePending = s.imePending := rfl
@[simp] theorem State.setFlags_events (s : State) (z n h c : Bool) :
    (s.setFlags z n h c).events = s.events := rfl
@[simp] theorem State.setFlags_refused (s : State) (z n h c : Bool) :
    (s.setFlags z n h c).refused = s.refused := rfl
@[simp] theorem State.setFlags_mem (s : State) (z n h c : Bool) :
    (s.setFlags z n h c).mem = s.mem := rfl
@[simp] theorem State.setFlags_params (s : State) (z n h c : Bool) :
    (s.setFlags z n h c).params = s.params := rfl

/-! ### write8 -/

@[simp] theorem State.write8_a (s : State) (addr : Word) (v : Byte) :
    (s.write8 addr v).a = s.a := rfl
@[simp] theorem State.write8_b (s : State) (addr : Word) (v : Byte) :
    (s.write8 addr v).b = s.b := rfl
@[simp] theorem State.write8_c (s : State) (addr : Word) (v : Byte) :
    (s.write8 addr v).c = s.c := rfl
@[simp] theorem State.write8_d (s : State) (addr : Word) (v : Byte) :
    (s.write8 addr v).d = s.d := rfl
@[simp] theorem State.write8_e (s : State) (addr : Word) (v : Byte) :
    (s.write8 addr v).e = s.e := rfl
@[simp] theorem State.write8_h (s : State) (addr : Word) (v : Byte) :
    (s.write8 addr v).h = s.h := rfl
@[simp] theorem State.write8_l (s : State) (addr : Word) (v : Byte) :
    (s.write8 addr v).l = s.l := rfl
@[simp] theorem State.write8_fz (s : State) (addr : Word) (v : Byte) :
    (s.write8 addr v).fz = s.fz := rfl
@[simp] theorem State.write8_fn (s : State) (addr : Word) (v : Byte) :
    (s.write8 addr v).fn = s.fn := rfl
@[simp] theorem State.write8_fh (s : State) (addr : Word) (v : Byte) :
    (s.write8 addr v).fh = s.fh := rfl
@[simp] theorem State.write8_fc (s : State) (addr : Word) (v : Byte) :
    (s.write8 addr v).fc = s.fc := rfl
@[simp] theorem State.write8_sp (s : State) (addr : Word) (v : Byte) :
    (s.write8 addr v).sp = s.sp := rfl
@[simp] theorem State.write8_pc (s : State) (addr : Word) (v : Byte) :
    (s.write8 addr v).pc = s.pc := rfl
@[simp] theorem State.write8_running (s : State) (addr : Word) (v : Byte) :
    (s.write8 addr v).running = s.running := rfl
@[simp] theorem State.write8_ime (s : State) (addr : Word) (v : Byte) :
    (s.write8 addr v).ime = s.ime := rfl
@[simp] theorem State.write8_imePending (s : State) (addr : Word) (v : Byte) :
    (s.write8 addr v).imePending = s.imePending := rfl
@[simp] theorem State.write8_events (s : State) (addr : Word) (v : Byte) :
    (s.write8 addr v).events = s.events := rfl
@[simp] theorem State.write8_refused (s : State) (addr : Word) (v : Byte) :
    (s.write8 addr v).refused = s.refused := rfl
@[simp] theorem State.write8_mem (s : State) (addr : Word) (v : Byte) :
    (s.write8 addr v).mem = Memory.write s.mem addr.toNat v := rfl
@[simp] theorem State.write8_params (s : State) (addr : Word) (v : Byte) :
    (s.write8 addr v).params = s.params := rfl

/-! ### setBc -/

@[simp] theorem State.setBc_a (s : State) (v : Word) :
    (s.setBc v).a = s.a := rfl
@[simp] theorem State.setBc_b (s : State) (v : Word) :
    (s.setBc v).b = hiByte v := rfl
@[simp] theorem State.setBc_c (s : State) (v : Word) :
    (s.setBc v).c = loByte v := rfl
@[simp] theorem State.setBc_d (s : State) (v : Word) :
    (s.setBc v).d = s.d := rfl
@[simp] theorem State.setBc_e (s : State) (v : Word) :
    (s.setBc v).e = s.e := rfl
@[simp] theorem State.setBc_h (s : State) (v : Word) :
    (s.setBc v).h = s.h := rfl
@[simp] theorem State.setBc_l (s : State) (v : Word) :
    (s.setBc v).l = s.l := rfl
@[simp] theorem State.setBc_fz (s : State) (v : Word) :
    (s.setBc v).fz = s.fz := rfl
@[simp] theorem State.setBc_fn (s : State) (v : Word) :
    (s.setBc v).fn = s.fn := rfl
@[simp] theorem State.setBc_fh (s : State) (v : Word) :
    (s.setBc v).fh = s.fh := rfl
@[simp] theorem State.setBc_fc (s : State) (v : Word) :
    (s.setBc v).fc = s.fc := rfl
@[simp] theorem State.setBc_sp (s : State) (v : Word) :
    (s.setBc v).sp = s.sp := rfl
@[simp] theorem State.setBc_pc (s : State) (v : Word) :
    (s.setBc v).pc = s.pc := rfl
@[simp] theorem State.setBc_running (s : State) (v : Word) :
    (s.setBc v).running = s.running := rfl
@[simp] theorem State.setBc_ime (s : State) (v : Word) :
    (s.setBc v).ime = s.ime := rfl
@[simp] theorem State.setBc_imePending (s : State) (v : Word) :
    (s.setBc v).imePending = s.imePending := rfl
@[simp] theorem State.setBc_events (s : State) (v : Word) :
    (s.setBc v).events = s.events := rfl
@[simp] theorem State.setBc_refused (s : State) (v : Word) :
    (s.setBc v).refused = s.refused := rfl
@[simp] theorem State.setBc_mem (s : State) (v : Word) :
    (s.setBc v).mem = s.mem := rfl
@[simp] theorem State.setBc_params (s : State) (v : Word) :
    (s.setBc v).params = s.params := rfl

/-! ### setDe -/

@[simp] theorem State.setDe_a (s : State) (v : Word) :
    (s.setDe v).a = s.a := rfl
@[simp] theorem State.setDe_b (s : State) (v : Word) :
    (s.setDe v).b = s.b := rfl
@[simp] theorem State.setDe_c (s : State) (v : Word) :
    (s.setDe v).c = s.c := rfl
@[simp] theorem State.setDe_d (s : State) (v : Word) :
    (s.setDe v).d = hiByte v := rfl
@[simp] theorem State.setDe_e (s : State) (v : Word) :
    (s.setDe v).e = loByte v := rfl
@[simp] theorem State.setDe_h (s : State) (v : Word) :
    (s.setDe v).h = s.h := rfl
@[simp] theorem State.setDe_l (s : State) (v : Word) :
    (s.setDe v).l = s.l := rfl
@[simp] theorem State.setDe_fz (s : State) (v : Word) :
    (s.setDe v).fz = s.fz := rfl
@[simp] theorem State.setDe_fn (s : State) (v : Word) :
    (s.setDe v).fn = s.fn := rfl
@[simp] theorem State.setDe_fh (s : State) (v : Word) :
    (s.setDe v).fh = s.fh := rfl
@[simp] theorem State.setDe_fc (s : State) (v : Word) :
    (s.setDe v).fc = s.fc := rfl
@[simp] theorem State.setDe_sp (s : State) (v : Word) :
    (s.setDe v).sp = s.sp := rfl
@[simp] theorem State.setDe_pc (s : State) (v : Word) :
    (s.setDe v).pc = s.pc := rfl
@[simp] theorem State.setDe_running (s : State) (v : Word) :
    (s.setDe v).running = s.running := rfl
@[simp] theorem State.setDe_ime (s : State) (v : Word) :
    (s.setDe v).ime = s.ime := rfl
@[simp] theorem State.setDe_imePending (s : State) (v : Word) :
    (s.setDe v).imePending = s.imePending := rfl
@[simp] theorem State.setDe_events (s : State) (v : Word) :
    (s.setDe v).events = s.events := rfl
@[simp] theorem State.setDe_refused (s : State) (v : Word) :
    (s.setDe v).refused = s.refused := rfl
@[simp] theorem State.setDe_mem (s : State) (v : Word) :
    (s.setDe v).mem = s.mem := rfl
@[simp] theorem State.setDe_params (s : State) (v : Word) :
    (s.setDe v).params = s.params := rfl

/-! ### setHl -/

@[simp] theorem State.setHl_a (s : State) (v : Word) :
    (s.setHl v).a = s.a := rfl
@[simp] theorem State.setHl_b (s : State) (v : Word) :
    (s.setHl v).b = s.b := rfl
@[simp] theorem State.setHl_c (s : State) (v : Word) :
    (s.setHl v).c = s.c := rfl
@[simp] theorem State.setHl_d (s : State) (v : Word) :
    (s.setHl v).d = s.d := rfl
@[simp] theorem State.setHl_e (s : State) (v : Word) :
    (s.setHl v).e = s.e := rfl
@[simp] theorem State.setHl_h (s : State) (v : Word) :
    (s.setHl v).h = hiByte v := rfl
@[simp] theorem State.setHl_l (s : State) (v : Word) :
    (s.setHl v).l = loByte v := rfl
@[simp] theorem State.setHl_fz (s : State) (v : Word) :
    (s.setHl v).fz = s.fz := rfl
@[simp] theorem State.setHl_fn (s : State) (v : Word) :
    (s.setHl v).fn = s.fn := rfl
@[simp] theorem State.setHl_fh (s : State) (v : Word) :
    (s.setHl v).fh = s.fh := rfl
@[simp] theorem State.setHl_fc (s : State) (v : Word) :
    (s.setHl v).fc = s.fc := rfl
@[simp] theorem State.setHl_sp (s : State) (v : Word) :
    (s.setHl v).sp = s.sp := rfl
@[simp] theorem State.setHl_pc (s : State) (v : Word) :
    (s.setHl v).pc = s.pc := rfl
@[simp] theorem State.setHl_running (s : State) (v : Word) :
    (s.setHl v).running = s.running := rfl
@[simp] theorem State.setHl_ime (s : State) (v : Word) :
    (s.setHl v).ime = s.ime := rfl
@[simp] theorem State.setHl_imePending (s : State) (v : Word) :
    (s.setHl v).imePending = s.imePending := rfl
@[simp] theorem State.setHl_events (s : State) (v : Word) :
    (s.setHl v).events = s.events := rfl
@[simp] theorem State.setHl_refused (s : State) (v : Word) :
    (s.setHl v).refused = s.refused := rfl
@[simp] theorem State.setHl_mem (s : State) (v : Word) :
    (s.setHl v).mem = s.mem := rfl
@[simp] theorem State.setHl_params (s : State) (v : Word) :
    (s.setHl v).params = s.params := rfl

/-! ### setAf -/

@[simp] theorem State.setAf_a (s : State) (v : Word) :
    (s.setAf v).a = hiByte v := rfl
@[simp] theorem State.setAf_b (s : State) (v : Word) :
    (s.setAf v).b = s.b := rfl
@[simp] theorem State.setAf_c (s : State) (v : Word) :
    (s.setAf v).c = s.c := rfl
@[simp] theorem State.setAf_d (s : State) (v : Word) :
    (s.setAf v).d = s.d := rfl
@[simp] theorem State.setAf_e (s : State) (v : Word) :
    (s.setAf v).e = s.e := rfl
@[simp] theorem State.setAf_h (s : State) (v : Word) :
    (s.setAf v).h = s.h := rfl
@[simp] theorem State.setAf_l (s : State) (v : Word) :
    (s.setAf v).l = s.l := rfl
@[simp] theorem State.setAf_fz (s : State) (v : Word) :
    (s.setAf v).fz = v.getLsbD 7 := rfl
@[simp] theorem State.setAf_fn (s : State) (v : Word) :
    (s.setAf v).fn = v.getLsbD 6 := rfl
@[simp] theorem State.setAf_fh (s : State) (v : Word) :
    (s.setAf v).fh = v.getLsbD 5 := rfl
@[simp] theorem State.setAf_fc (s : State) (v : Word) :
    (s.setAf v).fc = v.getLsbD 4 := rfl
@[simp] theorem State.setAf_sp (s : State) (v : Word) :
    (s.setAf v).sp = s.sp := rfl
@[simp] theorem State.setAf_pc (s : State) (v : Word) :
    (s.setAf v).pc = s.pc := rfl
@[simp] theorem State.setAf_running (s : State) (v : Word) :
    (s.setAf v).running = s.running := rfl
@[simp] theorem State.setAf_ime (s : State) (v : Word) :
    (s.setAf v).ime = s.ime := rfl
@[simp] theorem State.setAf_imePending (s : State) (v : Word) :
    (s.setAf v).imePending = s.imePending := rfl
@[simp] theorem State.setAf_events (s : State) (v : Word) :
    (s.setAf v).events = s.events := rfl
@[simp] theorem State.setAf_refused (s : State) (v : Word) :
    (s.setAf v).refused = s.refused := rfl
@[simp] theorem State.setAf_mem (s : State) (v : Word) :
    (s.setAf v).mem = s.mem := rfl
@[simp] theorem State.setAf_params (s : State) (v : Word) :
    (s.setAf v).params = s.params := rfl

/-! ### popped -/

@[simp] theorem State.popped_a (s : State) :
    s.popped.a = s.a := rfl
@[simp] theorem State.popped_b (s : State) :
    s.popped.b = s.b := rfl
@[simp] theorem State.popped_c (s : State) :
    s.popped.c = s.c := rfl
@[simp] theorem State.popped_d (s : State) :
    s.popped.d = s.d := rfl
@[simp] theorem State.popped_e (s : State) :
    s.popped.e = s.e := rfl
@[simp] theorem State.popped_h (s : State) :
    s.popped.h = s.h := rfl
@[simp] theorem State.popped_l (s : State) :
    s.popped.l = s.l := rfl
@[simp] theorem State.popped_fz (s : State) :
    s.popped.fz = s.fz := rfl
@[simp] theorem State.popped_fn (s : State) :
    s.popped.fn = s.fn := rfl
@[simp] theorem State.popped_fh (s : State) :
    s.popped.fh = s.fh := rfl
@[simp] theorem State.popped_fc (s : State) :
    s.popped.fc = s.fc := rfl
@[simp] theorem State.popped_sp (s : State) :
    s.popped.sp = s.sp + 1 + 1 := rfl
@[simp] theorem State.popped_pc (s : State) :
    s.popped.pc = s.pc := rfl
@[simp] theorem State.popped_running (s : State) :
    s.popped.running = s.running := rfl
@[simp] theorem State.popped_ime (s : State) :
    s.popped.ime = s.ime := rfl
@[simp] theorem State.popped_imePending (s : State) :
    s.popped.imePending = s.imePending := rfl
@[simp] theorem State.popped_events (s : State) :
    s.popped.events = s.events := rfl
@[simp] theorem State.popped_refused (s : State) :
    s.popped.refused = s.refused := rfl
@[simp] theorem State.popped_mem (s : State) :
    s.popped.mem = s.mem := rfl
@[simp] theorem State.popped_params (s : State) :
    s.popped.params = s.params := rfl

/-! ### halt -/

@[simp] theorem State.halt_a (s : State) :
    s.halt.a = s.a := rfl
@[simp] theorem State.halt_b (s : State) :
    s.halt.b = s.b := rfl
@[simp] theorem State.halt_c (s : State) :
    s.halt.c = s.c := rfl
@[simp] theorem State.halt_d (s : State) :
    s.halt.d = s.d := rfl
@[simp] theorem State.halt_e (s : State) :
    s.halt.e = s.e := rfl
@[simp] theorem State.halt_h (s : State) :
    s.halt.h = s.h := rfl
@[simp] theorem State.halt_l (s : State) :
    s.halt.l = s.l := rfl
@[simp] theorem State.halt_fz (s : State) :
    s.halt.fz = s.fz := rfl
@[simp] theorem State.halt_fn (s : State) :
    s.halt.fn = s.fn := rfl
@[simp] theorem State.halt_fh (s : State) :
    s.halt.fh = s.fh := rfl
@[simp] theorem State.halt_fc (s : State) :
    s.halt.fc = s.fc := rfl
@[simp] theorem State.halt_sp (s : State) :
    s.halt.sp = s.sp := rfl
@[simp] theorem State.halt_pc (s : State) :
    s.halt.pc = s.pc := rfl
@[simp] theorem State.halt_running (s : State) :
    s.halt.running = false := rfl
@[simp] theorem State.halt_ime (s : State) :
    s.halt.ime = s.ime := rfl
@[simp] theorem State.halt_imePending (s : State) :
    s.halt.imePending = s.imePending := rfl
@[simp] theorem State.halt_events (s : State) :
    s.halt.events = s.events := rfl
@[simp] theorem State.halt_refused (s : State) :
    s.halt.refused = s.refused := rfl
@[simp] theorem State.halt_mem (s : State) :
    s.halt.mem = s.mem := rfl
@[simp] theorem State.halt_params (s : State) :
    s.halt.params = s.params := rfl

/-! ### report -/

@[simp] theorem State.report_a (s : State) (op : Byte) :
    (s.report op).a = s.a := rfl
@[simp] theorem State.report_b (s : State) (op : Byte) :
    (s.report op).b = s.b := rfl
@[simp] theorem State.report_c (s : State) (op : Byte) :
    (s.report op).c = s.c := rfl
@[simp] theorem State.report_d (s : State) (op : Byte) :
    (s.report op).d = s.d := rfl
@[simp] theorem State.report_e (s : State) (op : Byte) :
    (s.report op).e = s.e := rfl
@[simp] theorem State.report_h (s : State) (op : Byte) :
    (s.report op).h = s.h := rfl
@[simp] theorem State.report_l (s : State) (op : Byte) :
    (s.report op).l = s.l := rfl
@[simp] theorem State.report_fz (s : State) (op : Byte) :
    (s.report op).fz = s.fz := rfl
@[simp] theorem State.report_fn (s : State) (op : Byte) :
    (s.report op).fn = s.fn := rfl
@[simp] theorem State.report_fh (s : State) (op : Byte) :
    (s.report op).fh = s.fh := rfl
@[simp] theorem State.report_fc (s : State) (op : Byte) :
    (s.report op).fc = s.fc := rfl
@[simp] theorem State.report_sp (s : State) (op : Byte) :
    (s.report op).sp = s.sp := rfl
@[simp] theorem State.report_pc (s : State) (op : Byte) :
    (s.report op).pc = s.pc := rfl
@[simp] theorem State.report_running (s : State) (op : Byte) :
    (s.report op).running = s.running := rfl
@[simp] theorem State.report_ime (s : State) (op : Byte) :
    (s.report op).ime = s.ime := rfl
@[simp] theorem State.report_imePending (s : State) (op : Byte) :
    (s.report op).imePending = s.imePending := rfl
@[simp] theorem State.report_events (s : State) (op : Byte) :
    (s.report op).events = s.events ++ [{ pc := s.pc, op := op }] := rfl
@[simp] theorem State.report_refused (s : State) (op : Byte) :
    (s.report op).refused = s.refused := rfl
@[simp] theorem State.report_mem (s : State) (op : Byte) :
    (s.report op).mem = s.mem := rfl
@[simp] theorem State.report_params (s : State) (op : Byte) :
    (s.report op).params = s.params := rfl

/-! ### pushByte -/

@[simp] theorem State.pushByte_a (s : State) (v : Byte) :
    (s.pushByte v).a = s.a := rfl
@[simp] theorem State.pushByte_b (s : State) (v : Byte) :
    (s.pushByte v).b = s.b := rfl
@[simp] theorem State.pushByte_c (s : State) (v : Byte) :
    (s.pushByte v).c = s.c := rfl
@[simp] theorem State.pushByte_d (s : State) (v : Byte) :
    (s.pushByte v).d = s.d := rfl
@[simp] theorem State.pushByte_e (s : State) (v : Byte) :
    (s.pushByte v).e = s.e := rfl
@[simp] theorem State.pushByte_h (s : State) (v : Byte) :
    (s.pushByte v).h = s.h := rfl
@[simp] theorem State.pushByte_l (s : State) (v : Byte) :
    (s.pushByte v).l = s.l := rfl
@[simp] theorem State.pushByte_fz (s : State) (v : Byte) :
    (s.pushByte v).fz = s.fz := rfl
@[simp] theorem State.pushByte_fn (s : State) (v : Byte) :
    (s.pushByte v).fn = s.fn := rfl
@[simp] theorem State.pushByte_fh (s : State) (v : Byte) :
    (s.pushByte v).fh = s.fh := rfl
@[simp] theorem State.pushByte_fc (s : State) (v : Byte) :
    (s.pushByte v).fc = s.fc := rfl
@[simp] theorem State.pushByte_sp (s : State) (v : Byte) :
    (s.pushByte v).sp = s.sp - 1 := rfl
@[simp] theorem State.pushByte_pc (s : State) (v : Byte) :
    (s.pushByte v).pc = s.pc := rfl
@[simp] theorem State.pushByte_running (s : State) (v : Byte) :
    (s.pushByte v).running = s.running := rfl
@[simp] theorem State.pushByte_ime (s : State) (v : Byte) :
    (s.pushByte v).ime = s.ime := rfl
@[simp] theorem State.pushByte_imePending (s : State) (v : Byte) :
    (s.pushByte v).imePending = s.imePending := rfl
@[simp] theorem State.pushByte_events (s : State) (v : Byte) :
    (s.pushByte v).events = s.events := rfl
@[simp] theorem State.pushByte_refused (s : State) (v : Byte) :
    (s.pushByte v).refused = s.refused := rfl
@[simp] theorem State.pushByte_mem (s : State) (v : Byte) :
    (s.pushByte v).mem = Memory.write s.mem (s.sp - 1).toNat v := rfl
@[simp] theorem State.pushByte_params (s : State) (v : Byte) :
    (s.pushByte v).params = s.params := rfl

/-! ### ended -/

@[simp] theorem State.ended_a (s : State) (pc : Word) :
    (s.ended pc).a = s.a := rfl
@[simp] theorem State.ended_b (s : State) (pc : Word) :
    (s.ended pc).b = s.b := rfl
@[simp] theorem State.ended_c (s : State) (pc : Word) :
    (s.ended pc).c = s.c := rfl
@[simp] theorem State.ended_d (s : State) (pc : Word) :
    (s.ended pc).d = s.d := rfl
@[simp] theorem State.ended_e (s : State) (pc : Word) :
    (s.ended pc).e = s.e := rfl
@[simp] theorem State.ended_h (s : State) (pc : Word) :
    (s.ended pc).h = s.h := rfl
@[simp] theorem State.ended_l (s : State) (pc : Word) :
    (s.ended pc).l = s.l := rfl
@[simp] theorem State.ended_fz (s : State) (pc : Word) :
    (s.ended pc).fz = s.fz := rfl
@[simp] theorem State.ended_fn (s : State) (pc : Word) :
    (s.ended pc).fn = s.fn := rfl
@[simp] theorem State.ended_fh (s : State) (pc : Word) :
    (s.ended pc).fh = s.fh := rfl
@[simp] theorem State.ended_fc (s : State) (pc : Word) :
    (s.ended pc).fc = s.fc := rfl
@[simp] theorem State.ended_sp (s : State) (pc : Word) :
    (s.ended pc).sp = s.sp := rfl
@[simp] theorem State.ended_pc (s : State) (pc : Word) :
    (s.ended pc).pc = pc := rfl
@[simp] theorem State.ended_running (s : State) (pc : Word) :
    (s.ended pc).running = s.running := rfl
@[simp] theorem State.ended_ime (s : State) (pc : Word) :
    (s.ended pc).ime = (s.ime || s.imePending) := rfl
@[simp] theorem State.ended_imePending (s : State) (pc : Word) :
    (s.ended pc).imePending = false := rfl
@[simp] theorem State.ended_events (s : State) (pc : Word) :
    (s.ended pc).events = s.events := rfl
@[simp] theorem State.ended_refused (s : State) (pc : Word) :
    (s.ended pc).refused = s.refused := rfl
@[simp] theorem State.ended_mem (s : State) (pc : Word) :
    (s.ended pc).mem = s.mem := rfl
@[simp] theorem State.ended_params (s : State) (pc : Word) :
    (s.ended pc).params = s.params := rfl

/-! ### settleIme -/

@[simp] theorem State.settleIme_a (w : Bool) (s : State) :
    (State.settleIme w s).a = s.a := rfl
@[simp] theorem State.settleIme_b (w : Bool) (s : State) :
    (State.settleIme w s).b = s.b := rfl
@[simp] theorem State.settleIme_c (w : Bool) (s : State) :
    (State.settleIme w s).c = s.c := rfl
@[simp] theorem State.settleIme_d (w : Bool) (s : State) :
    (State.settleIme w s).d = s.d := rfl
@[simp] theorem State.settleIme_e (w : Bool) (s : State) :
    (State.settleIme w s).e = s.e := rfl
@[simp] theorem State.settleIme_h (w : Bool) (s : State) :
    (State.settleIme w s).h = s.h := rfl
@[simp] theorem State.settleIme_l (w : Bool) (s : State) :
    (State.settleIme w s).l = s.l := rfl
@[simp] theorem State.settleIme_fz (w : Bool) (s : State) :
    (State.settleIme w s).fz = s.fz := rfl
@[simp] theorem State.settleIme_fn (w : Bool) (s : State) :
    (State.settleIme w s).fn = s.fn := rfl
@[simp] theorem State.settleIme_fh (w : Bool) (s : State) :
    (State.settleIme w s).fh = s.fh := rfl
@[simp] theorem State.settleIme_fc (w : Bool) (s : State) :
    (State.settleIme w s).fc = s.fc := rfl
@[simp] theorem State.settleIme_sp (w : Bool) (s : State) :
    (State.settleIme w s).sp = s.sp := rfl
@[simp] theorem State.settleIme_pc (w : Bool) (s : State) :
    (State.settleIme w s).pc = s.pc := rfl
@[simp] theorem State.settleIme_running (w : Bool) (s : State) :
    (State.settleIme w s).running = s.running := rfl
@[simp] theorem State.settleIme_ime (w : Bool) (s : State) :
    (State.settleIme w s).ime = (s.ime || (w && s.imePending)) := rfl
@[simp] theorem State.settleIme_imePending (w : Bool) (s : State) :
    (State.settleIme w s).imePending = (s.imePending && !w) := rfl
@[simp] theorem State.settleIme_events (w : Bool) (s : State) :
    (State.settleIme w s).events = s.events := rfl
@[simp] theorem State.settleIme_refused (w : Bool) (s : State) :
    (State.settleIme w s).refused = s.refused := rfl
@[simp] theorem State.settleIme_mem (w : Bool) (s : State) :
    (State.settleIme w s).mem = s.mem := rfl
@[simp] theorem State.settleIme_params (w : Bool) (s : State) :
    (State.settleIme w s).params = s.params := rfl

/-! ### setReg: the fields that hold no register, and the register file -/

@[simp] theorem State.setReg_fz (s : State) (r : Reg8) (v : Byte) :
    (s.setReg r v).fz = s.fz := by cases r <;> rfl
@[simp] theorem State.setReg_fn (s : State) (r : Reg8) (v : Byte) :
    (s.setReg r v).fn = s.fn := by cases r <;> rfl
@[simp] theorem State.setReg_fh (s : State) (r : Reg8) (v : Byte) :
    (s.setReg r v).fh = s.fh := by cases r <;> rfl
@[simp] theorem State.setReg_fc (s : State) (r : Reg8) (v : Byte) :
    (s.setReg r v).fc = s.fc := by cases r <;> rfl
@[simp] theorem State.setReg_sp (s : State) (r : Reg8) (v : Byte) :
    (s.setReg r v).sp = s.sp := by cases r <;> rfl
@[simp] theorem State.setReg_pc (s : State) (r : Reg8) (v : Byte) :
    (s.setReg r v).pc = s.pc := by cases r <;> rfl
@[simp] theorem State.setReg_running (s : State) (r : Reg8) (v : Byte) :
    (s.setReg r v).running = s.running := by cases r <;> rfl
@[simp] theorem State.setReg_ime (s : State) (r : Reg8) (v : Byte) :
    (s.setReg r v).ime = s.ime := by cases r <;> rfl
@[simp] theorem State.setReg_imePending (s : State) (r : Reg8) (v : Byte) :
    (s.setReg r v).imePending = s.imePending := by cases r <;> rfl
@[simp] theorem State.setReg_events (s : State) (r : Reg8) (v : Byte) :
    (s.setReg r v).events = s.events := by cases r <;> rfl
@[simp] theorem State.setReg_refused (s : State) (r : Reg8) (v : Byte) :
    (s.setReg r v).refused = s.refused := by cases r <;> rfl
@[simp] theorem State.setReg_mem (s : State) (r : Reg8) (v : Byte) :
    (s.setReg r v).mem = s.mem := by cases r <;> rfl
@[simp] theorem State.setReg_params (s : State) (r : Reg8) (v : Byte) :
    (s.setReg r v).params = s.params := by cases r <;> rfl

@[simp] theorem State.reg_setReg_same (s : State) (r : Reg8) (v : Byte) :
    (s.setReg r v).reg r = v := by cases r <;> rfl

theorem State.reg_setReg_other (s : State) {r r' : Reg8} (v : Byte) (h : r' ≠ r) :
    (s.setReg r v).reg r' = s.reg r' := by
  cases r <;> cases r' <;> first | rfl | exact absurd rfl h

/-- Writing back what a register holds changes nothing (R92: LD r,r). -/
@[simp] theorem State.setReg_reg (s : State) (r : Reg8) : s.setReg r (s.reg r) = s := by
  cases r <;> rfl

/-! ### setOpnd and setPair: the fields they leave alone -/

@[simp] theorem State.setOpnd_fz (s : State) (x : Opnd8) (v : Byte) :
    (s.setOpnd x v).fz = s.fz := by cases x <;> simp [State.setOpnd]
@[simp] theorem State.setOpnd_fn (s : State) (x : Opnd8) (v : Byte) :
    (s.setOpnd x v).fn = s.fn := by cases x <;> simp [State.setOpnd]
@[simp] theorem State.setOpnd_fh (s : State) (x : Opnd8) (v : Byte) :
    (s.setOpnd x v).fh = s.fh := by cases x <;> simp [State.setOpnd]
@[simp] theorem State.setOpnd_fc (s : State) (x : Opnd8) (v : Byte) :
    (s.setOpnd x v).fc = s.fc := by cases x <;> simp [State.setOpnd]
@[simp] theorem State.setOpnd_sp (s : State) (x : Opnd8) (v : Byte) :
    (s.setOpnd x v).sp = s.sp := by cases x <;> simp [State.setOpnd]
@[simp] theorem State.setOpnd_pc (s : State) (x : Opnd8) (v : Byte) :
    (s.setOpnd x v).pc = s.pc := by cases x <;> simp [State.setOpnd]
@[simp] theorem State.setOpnd_running (s : State) (x : Opnd8) (v : Byte) :
    (s.setOpnd x v).running = s.running := by cases x <;> simp [State.setOpnd]
@[simp] theorem State.setOpnd_ime (s : State) (x : Opnd8) (v : Byte) :
    (s.setOpnd x v).ime = s.ime := by cases x <;> simp [State.setOpnd]
@[simp] theorem State.setOpnd_imePending (s : State) (x : Opnd8) (v : Byte) :
    (s.setOpnd x v).imePending = s.imePending := by cases x <;> simp [State.setOpnd]
@[simp] theorem State.setOpnd_events (s : State) (x : Opnd8) (v : Byte) :
    (s.setOpnd x v).events = s.events := by cases x <;> simp [State.setOpnd]
@[simp] theorem State.setOpnd_refused (s : State) (x : Opnd8) (v : Byte) :
    (s.setOpnd x v).refused = s.refused := by cases x <;> simp [State.setOpnd]
@[simp] theorem State.setOpnd_params (s : State) (x : Opnd8) (v : Byte) :
    (s.setOpnd x v).params = s.params := by cases x <;> simp [State.setOpnd]

@[simp] theorem State.setOpnd_reg_mem (s : State) (r : Reg8) (v : Byte) :
    (s.setOpnd (.reg r) v).mem = s.mem := by simp [State.setOpnd]

@[simp] theorem State.setOpnd_indHl_mem (s : State) (v : Byte) :
    (s.setOpnd .indHl v).mem = Memory.write s.mem s.hl.toNat v := rfl

@[simp] theorem State.setPair_fz (s : State) (p : Pair) (v : Word) :
    (s.setPair p v).fz = s.fz := by cases p <;> rfl
@[simp] theorem State.setPair_fn (s : State) (p : Pair) (v : Word) :
    (s.setPair p v).fn = s.fn := by cases p <;> rfl
@[simp] theorem State.setPair_fh (s : State) (p : Pair) (v : Word) :
    (s.setPair p v).fh = s.fh := by cases p <;> rfl
@[simp] theorem State.setPair_fc (s : State) (p : Pair) (v : Word) :
    (s.setPair p v).fc = s.fc := by cases p <;> rfl
@[simp] theorem State.setPair_pc (s : State) (p : Pair) (v : Word) :
    (s.setPair p v).pc = s.pc := by cases p <;> rfl
@[simp] theorem State.setPair_running (s : State) (p : Pair) (v : Word) :
    (s.setPair p v).running = s.running := by cases p <;> rfl
@[simp] theorem State.setPair_ime (s : State) (p : Pair) (v : Word) :
    (s.setPair p v).ime = s.ime := by cases p <;> rfl
@[simp] theorem State.setPair_imePending (s : State) (p : Pair) (v : Word) :
    (s.setPair p v).imePending = s.imePending := by cases p <;> rfl
@[simp] theorem State.setPair_events (s : State) (p : Pair) (v : Word) :
    (s.setPair p v).events = s.events := by cases p <;> rfl
@[simp] theorem State.setPair_refused (s : State) (p : Pair) (v : Word) :
    (s.setPair p v).refused = s.refused := by cases p <;> rfl
@[simp] theorem State.setPair_mem (s : State) (p : Pair) (v : Word) :
    (s.setPair p v).mem = s.mem := by cases p <;> rfl
@[simp] theorem State.setPair_params (s : State) (p : Pair) (v : Word) :
    (s.setPair p v).params = s.params := by cases p <;> rfl
@[simp] theorem State.setStackPair_sp (s : State) (p : StackPair) (v : Word) :
    (s.setStackPair p v).sp = s.sp := by cases p <;> rfl
@[simp] theorem State.setStackPair_pc (s : State) (p : StackPair) (v : Word) :
    (s.setStackPair p v).pc = s.pc := by cases p <;> rfl
@[simp] theorem State.setStackPair_running (s : State) (p : StackPair) (v : Word) :
    (s.setStackPair p v).running = s.running := by cases p <;> rfl
@[simp] theorem State.setStackPair_ime (s : State) (p : StackPair) (v : Word) :
    (s.setStackPair p v).ime = s.ime := by cases p <;> rfl
@[simp] theorem State.setStackPair_imePending (s : State) (p : StackPair) (v : Word) :
    (s.setStackPair p v).imePending = s.imePending := by cases p <;> rfl
@[simp] theorem State.setStackPair_events (s : State) (p : StackPair) (v : Word) :
    (s.setStackPair p v).events = s.events := by cases p <;> rfl
@[simp] theorem State.setStackPair_refused (s : State) (p : StackPair) (v : Word) :
    (s.setStackPair p v).refused = s.refused := by cases p <;> rfl
@[simp] theorem State.setStackPair_mem (s : State) (p : StackPair) (v : Word) :
    (s.setStackPair p v).mem = s.mem := by cases p <;> rfl
@[simp] theorem State.setStackPair_params (s : State) (p : StackPair) (v : Word) :
    (s.setStackPair p v).params = s.params := by cases p <;> rfl
@[simp] theorem State.push16_a (s : State) (v : Word) :
    (s.push16 v).a = s.a := rfl
@[simp] theorem State.push16_b (s : State) (v : Word) :
    (s.push16 v).b = s.b := rfl
@[simp] theorem State.push16_c (s : State) (v : Word) :
    (s.push16 v).c = s.c := rfl
@[simp] theorem State.push16_d (s : State) (v : Word) :
    (s.push16 v).d = s.d := rfl
@[simp] theorem State.push16_e (s : State) (v : Word) :
    (s.push16 v).e = s.e := rfl
@[simp] theorem State.push16_h (s : State) (v : Word) :
    (s.push16 v).h = s.h := rfl
@[simp] theorem State.push16_l (s : State) (v : Word) :
    (s.push16 v).l = s.l := rfl
@[simp] theorem State.push16_fz (s : State) (v : Word) :
    (s.push16 v).fz = s.fz := rfl
@[simp] theorem State.push16_fn (s : State) (v : Word) :
    (s.push16 v).fn = s.fn := rfl
@[simp] theorem State.push16_fh (s : State) (v : Word) :
    (s.push16 v).fh = s.fh := rfl
@[simp] theorem State.push16_fc (s : State) (v : Word) :
    (s.push16 v).fc = s.fc := rfl
@[simp] theorem State.push16_pc (s : State) (v : Word) :
    (s.push16 v).pc = s.pc := rfl
@[simp] theorem State.push16_running (s : State) (v : Word) :
    (s.push16 v).running = s.running := rfl
@[simp] theorem State.push16_ime (s : State) (v : Word) :
    (s.push16 v).ime = s.ime := rfl
@[simp] theorem State.push16_imePending (s : State) (v : Word) :
    (s.push16 v).imePending = s.imePending := rfl
@[simp] theorem State.push16_events (s : State) (v : Word) :
    (s.push16 v).events = s.events := rfl
@[simp] theorem State.push16_refused (s : State) (v : Word) :
    (s.push16 v).refused = s.refused := rfl
@[simp] theorem State.push16_params (s : State) (v : Word) :
    (s.push16 v).params = s.params := rfl
@[simp] theorem State.write16_a (s : State) (addr v : Word) :
    (s.write16 addr v).a = s.a := rfl
@[simp] theorem State.write16_b (s : State) (addr v : Word) :
    (s.write16 addr v).b = s.b := rfl
@[simp] theorem State.write16_c (s : State) (addr v : Word) :
    (s.write16 addr v).c = s.c := rfl
@[simp] theorem State.write16_d (s : State) (addr v : Word) :
    (s.write16 addr v).d = s.d := rfl
@[simp] theorem State.write16_e (s : State) (addr v : Word) :
    (s.write16 addr v).e = s.e := rfl
@[simp] theorem State.write16_h (s : State) (addr v : Word) :
    (s.write16 addr v).h = s.h := rfl
@[simp] theorem State.write16_l (s : State) (addr v : Word) :
    (s.write16 addr v).l = s.l := rfl
@[simp] theorem State.write16_fz (s : State) (addr v : Word) :
    (s.write16 addr v).fz = s.fz := rfl
@[simp] theorem State.write16_fn (s : State) (addr v : Word) :
    (s.write16 addr v).fn = s.fn := rfl
@[simp] theorem State.write16_fh (s : State) (addr v : Word) :
    (s.write16 addr v).fh = s.fh := rfl
@[simp] theorem State.write16_fc (s : State) (addr v : Word) :
    (s.write16 addr v).fc = s.fc := rfl
@[simp] theorem State.write16_sp (s : State) (addr v : Word) :
    (s.write16 addr v).sp = s.sp := rfl
@[simp] theorem State.write16_pc (s : State) (addr v : Word) :
    (s.write16 addr v).pc = s.pc := rfl
@[simp] theorem State.write16_running (s : State) (addr v : Word) :
    (s.write16 addr v).running = s.running := rfl
@[simp] theorem State.write16_ime (s : State) (addr v : Word) :
    (s.write16 addr v).ime = s.ime := rfl
@[simp] theorem State.write16_imePending (s : State) (addr v : Word) :
    (s.write16 addr v).imePending = s.imePending := rfl
@[simp] theorem State.write16_events (s : State) (addr v : Word) :
    (s.write16 addr v).events = s.events := rfl
@[simp] theorem State.write16_refused (s : State) (addr v : Word) :
    (s.write16 addr v).refused = s.refused := rfl
@[simp] theorem State.write16_params (s : State) (addr v : Word) :
    (s.write16 addr v).params = s.params := rfl

/-! ### Bytes of a word -/

@[simp] theorem hiByte_cat (x y : Byte) : hiByte (cat x y) = x := by
  apply BitVec.eq_of_getLsbD_eq
  intro i hi
  simp only [hiByte, cat, BitVec.getLsbD_extractLsb', BitVec.getLsbD_append]
  simp [hi, show ¬ (8 + i < 8) by omega]

@[simp] theorem loByte_cat (x y : Byte) : loByte (cat x y) = y := by
  apply BitVec.eq_of_getLsbD_eq
  intro i hi
  simp only [loByte, cat, BitVec.getLsbD_extractLsb', BitVec.getLsbD_append]
  simp [hi]

@[simp] theorem cat_hiByte_loByte (v : Word) : cat (hiByte v) (loByte v) = v := by
  apply BitVec.eq_of_getLsbD_eq
  intro i hi
  simp only [hiByte, loByte, cat, BitVec.getLsbD_extractLsb', BitVec.getLsbD_append]
  split
  · simp [*]
  · rw [show 8 + (i - 8) = i by omega]
    simp [show i - 8 < 8 by omega]
end Sys2Proof.Machine
end

