-- ==== Sys2Proof/Laws/Memory.lean ====
section
/-! SUPPORT. The laws of the memory array: read after write, and that every operation keeps the canonical
form. -/

namespace Sys2Proof.Machine

/-! ### The canonical form -/

theorem Memory.wfFrom_cons {lo k : Nat} {v : Byte} {m : Memory} :
    Memory.wfFrom lo ((k, v) :: m) = true ↔
      lo ≤ k ∧ k < busSize ∧ v ≠ Memory.unlisted ∧ Memory.wfFrom (k + 1) m = true := by
  simp [Memory.wfFrom, and_assoc]

theorem Memory.wfFrom_mono {m : Memory} {lo lo' : Nat} (h : Memory.wfFrom lo m = true)
    (hl : lo' ≤ lo) : Memory.wfFrom lo' m = true := by
  cases m with
  | nil => rfl
  | cons e rest =>
    obtain ⟨k, v⟩ := e
    rw [Memory.wfFrom_cons] at h ⊢
    exact ⟨by omega, h.2⟩

/-- An address below a canonical list is not in it. -/
theorem Memory.read_below {m : Memory} {lo a : Nat} (h : Memory.wfFrom lo m = true) (ha : a < lo) :
    Memory.read m a = Memory.unlisted := by
  induction m generalizing lo with
  | nil => rfl
  | cons e rest ih =>
    obtain ⟨k, v⟩ := e
    rw [Memory.wfFrom_cons] at h
    rw [Memory.read, if_neg (by omega)]
    exact ih h.2.2.2 (by omega)

theorem Memory.write_wfFrom {m : Memory} {lo a : Nat} (v : Byte) (h : Memory.wfFrom lo m = true)
    (hlo : lo ≤ a) (ha : a < busSize) : Memory.wfFrom lo (Memory.write m a v) = true := by
  induction m generalizing lo with
  | nil =>
    unfold Memory.write
    split
    · rfl
    · exact Memory.wfFrom_cons.2 ⟨hlo, ha, ‹_›, rfl⟩
  | cons e rest ih =>
    obtain ⟨k, w⟩ := e
    obtain ⟨hk, hkb, hw, hr⟩ := Memory.wfFrom_cons.1 h
    unfold Memory.write
    split
    · split
      · exact h
      · exact Memory.wfFrom_cons.2
          ⟨hlo, ha, ‹_›, Memory.wfFrom_cons.2 ⟨by omega, hkb, hw, hr⟩⟩
    · split
      · subst_vars
        split
        · exact Memory.wfFrom_mono hr (by omega)
        · exact Memory.wfFrom_cons.2 ⟨hlo, ha, ‹_›, hr⟩
      · exact Memory.wfFrom_cons.2 ⟨hk, hkb, hw, ih hr (by omega)⟩

/-- Storing a byte inside the bus keeps the canonical form. -/
theorem Memory.write_wf {m : Memory} {a : Nat} (v : Byte) (h : Memory.wf m = true)
    (ha : a < busSize) : Memory.wf (Memory.write m a v) = true :=
  Memory.write_wfFrom v h (Nat.zero_le a) ha

/-- A ROM image that fits keeps the canonical form (R335). -/
theorem Memory.load_wf {image : List Byte} {m : Memory} {a : Nat} (h : Memory.wf m = true)
    (ha : a + image.length ≤ busSize) : Memory.wf (Memory.load m a image) = true := by
  induction image generalizing m a with
  | nil => exact h
  | cons v rest ih =>
    rw [List.length_cons] at ha
    exact ih (Memory.write_wf v h (by omega)) (by omega)

/-! ### Read after write (R57, R62) -/

theorem Memory.read_write_same {m : Memory} {lo a : Nat} (v : Byte)
    (h : Memory.wfFrom lo m = true) : Memory.read (Memory.write m a v) a = v := by
  induction m generalizing lo with
  | nil =>
    unfold Memory.write
    split
    · subst_vars; rfl
    · simp [Memory.read]
  | cons e rest ih =>
    obtain ⟨k, w⟩ := e
    obtain ⟨-, -, -, hr⟩ := Memory.wfFrom_cons.1 h
    unfold Memory.write
    split
    · split
      · subst_vars
        rw [Memory.read, if_neg (by omega)]
        exact Memory.read_below hr (by omega)
      · simp [Memory.read]
    · split
      · subst_vars
        split
        · subst_vars; exact Memory.read_below hr (by omega)
        · simp [Memory.read]
      · rw [Memory.read, if_neg (by omega)]
        exact ih hr

theorem Memory.read_write_other {m : Memory} {a a' : Nat} (v : Byte) (hne : a' ≠ a) :
    Memory.read (Memory.write m a v) a' = Memory.read m a' := by
  induction m with
  | nil =>
    unfold Memory.write
    split
    · rfl
    · simp [Memory.read, hne.symm]
  | cons e rest ih =>
    obtain ⟨k, w⟩ := e
    unfold Memory.write
    split
    · split
      · rfl
      · rw [Memory.read, if_neg (by omega)]
    · split
      · subst_vars
        split
        · rw [Memory.read, if_neg (by omega)]
        · rw [Memory.read, if_neg (by omega), Memory.read, if_neg (by omega)]
      · rw [Memory.read, Memory.read]
        split
        · rfl
        · exact ih

/-! ### The same of the state's accesses -/

theorem addr_lt_busSize (a : Word) : a.toNat < busSize := a.isLt

theorem State.read8_write8_same {s : State} (a : Word) (v : Byte) (h : Memory.wf s.mem = true) :
    (s.write8 a v).read8 a = v := Memory.read_write_same v h

theorem State.read8_write8_other {s : State} {a a' : Word} (v : Byte) (hne : a' ≠ a) :
    (s.write8 a v).read8 a' = s.read8 a' :=
  Memory.read_write_other v (fun h => hne (BitVec.eq_of_toNat_eq h))

theorem State.write8_wf {s : State} (a : Word) (v : Byte) (h : Memory.wf s.mem = true) :
    Memory.wf (s.write8 a v).mem = true := Memory.write_wf v h (addr_lt_busSize a)

theorem State.write16_wf {s : State} (a v : Word) (h : Memory.wf s.mem = true) :
    Memory.wf (s.write16 a v).mem = true := State.write8_wf _ _ (State.write8_wf _ _ h)

theorem State.pushByte_wf {s : State} (v : Byte) (h : Memory.wf s.mem = true) :
    Memory.wf (s.pushByte v).mem = true := Memory.write_wf v h (addr_lt_busSize _)

theorem State.push16_wf {s : State} (v : Word) (h : Memory.wf s.mem = true) :
    Memory.wf (s.push16 v).mem = true := State.pushByte_wf _ (State.pushByte_wf _ h)

theorem State.setOpnd_wf {s : State} (o : Opnd8) (v : Byte) (h : Memory.wf s.mem = true) :
    Memory.wf (s.setOpnd o v).mem = true := by
  cases o with
  | reg r => simpa using h
  | indHl => exact Memory.write_wf v h (addr_lt_busSize _)

/-- Reads depend on the memory array alone. -/
theorem State.read8_congr {s t : State} (h : t.mem = s.mem) (a : Word) : t.read8 a = s.read8 a := by
  unfold State.read8; rw [h]

/-- What `Push16` stores where, and that every other byte stays (R230). -/
theorem State.push16_sp (s : State) (v : Word) : (s.push16 v).sp = s.sp - 1 - 1 := rfl

theorem State.push16_read8_other {s : State} {a : Word} (v : Word) (h : a ∉ pushAddresses s) :
    (s.push16 v).read8 a = s.read8 a := by
  simp only [pushAddresses, List.mem_cons, List.not_mem_nil, or_false, not_or] at h
  have h1 : (s.push16 v).read8 a = (s.pushByte (hiByte v)).read8 a :=
    State.read8_write8_other (s := s.pushByte (hiByte v)) _ h.2
  exact h1.trans (State.read8_write8_other (s := s) _ h.1)

end Sys2Proof.Machine
end

