-- ==== Sys2Proof/Laws/Exec.lean ====
section
/-! SUPPORT. The 512 instructions as 59 forms, so that a proof about every instruction splits over the
forms, and one lemma per form that says which shared operation `exec` runs. -/

namespace Sys2Proof

/-- An instruction by its shape and operands. -/
inductive Form where
  | nop
  | halt
  | stop (n : Byte)
  | di
  | ei
  | unknown (u : UnknownOp)
  | prefixCb (op2 : Byte)
  | alu (op : AluOp) (src : AluSrc)
  | inc8 (o : Opnd8)
  | dec8 (o : Opnd8)
  | rotA (op : RotA)
  | daa
  | cpl
  | scf
  | ccf
  | incPair (p : Pair)
  | decPair (p : Pair)
  | addHl (p : Pair)
  | addSp (e : Byte)
  | ldHlSp (e : Byte)
  | jr (e : Byte)
  | jrCc (cc : Cond) (e : Byte)
  | jp (nn : Word)
  | jpCc (cc : Cond) (nn : Word)
  | jpHl
  | call (nn : Word)
  | callCc (cc : Cond) (nn : Word)
  | ret
  | retCc (cc : Cond)
  | reti
  | rst (t : Idx8)
  | push (p : StackPair)
  | pop (p : StackPair)
  | ldSpHl
  | ldA16Sp (nn : Word)
  | ldRR (dst : Reg8) (src : Reg8)
  | ldRHl (dst : Reg8)
  | ldHlR (src : Reg8)
  | ldRD8 (dst : Reg8) (n : Byte)
  | ldHlD8 (n : Byte)
  | ldPairD16 (p : Pair) (nn : Word)
  | storeBc
  | storeDe
  | storeHlInc
  | storeHlDec
  | loadBc
  | loadDe
  | loadHlInc
  | loadHlDec
  | storeA16 (nn : Word)
  | loadA16 (nn : Word)
  | storeHigh (n : Byte)
  | loadHigh (n : Byte)
  | storeC
  | loadC
  | shift (op : ShiftOp) (o : Opnd8)
  | bit (b : Idx8) (o : Opnd8)
  | res (b : Idx8) (o : Opnd8)
  | set (b : Idx8) (o : Opnd8)
  deriving DecidableEq, Repr

/-- The row a form stands for. -/
def Form.instr : Form → Instr
  | .nop => .nop
  | .halt => .halt
  | .stop n => .stop n
  | .di => .di
  | .ei => .ei
  | .unknown u => .unknown u
  | .prefixCb op2 => .prefixCb op2
  | .alu op src => .alu op src
  | .inc8 o => .inc8 o
  | .dec8 o => .dec8 o
  | .rotA op => .rotA op
  | .daa => .daa
  | .cpl => .cpl
  | .scf => .scf
  | .ccf => .ccf
  | .incPair p => .incPair p
  | .decPair p => .decPair p
  | .addHl p => .addHlPair p
  | .addSp e => .addSpE8 e
  | .ldHlSp e => .ldHlSpE8 e
  | .jr e => .jrE8 e
  | .jrCc cc e => .jrCc cc e
  | .jp nn => .jpA16 nn
  | .jpCc cc nn => .jpCc cc nn
  | .jpHl => .jpHl
  | .call nn => .callA16 nn
  | .callCc cc nn => .callCc cc nn
  | .ret => .ret
  | .retCc cc => .retCc cc
  | .reti => .reti
  | .rst t => .rst t
  | .push p => .push p
  | .pop p => .pop p
  | .ldSpHl => .ldSpHl
  | .ldA16Sp nn => .ldIndA16Sp nn
  | .ldRR dst src => .ldRR dst src
  | .ldRHl dst => .ldRHl dst
  | .ldHlR src => .ldHlR src
  | .ldRD8 dst n => .ldRD8 dst n
  | .ldHlD8 n => .ldIndHlD8 n
  | .ldPairD16 p nn => .ldPairD16 p nn
  | .storeBc => .ldIndBcA
  | .storeDe => .ldIndDeA
  | .storeHlInc => .ldIndHlIncA
  | .storeHlDec => .ldIndHlDecA
  | .loadBc => .ldAIndBc
  | .loadDe => .ldAIndDe
  | .loadHlInc => .ldAIndHlInc
  | .loadHlDec => .ldAIndHlDec
  | .storeA16 nn => .ldIndA16A nn
  | .loadA16 nn => .ldAIndA16 nn
  | .storeHigh n => .ldhIndA8A n
  | .loadHigh n => .ldhAIndA8 n
  | .storeC => .ldIndCA
  | .loadC => .ldAIndC
  | .shift op o => .shift op o
  | .bit b o => .bit b o
  | .res b o => .res b o
  | .set b o => .set b o

/-- The form of a row. -/
def Instr.form : Instr → Form
  | .nop => .nop
  | .ldBcD16 nn => .ldPairD16 .bc nn
  | .ldIndBcA => .storeBc
  | .incBc => .incPair .bc
  | .incB => .inc8 (.reg .b)
  | .decB => .dec8 (.reg .b)
  | .ldBD8 n => .ldRD8 .b n
  | .rlca => .rotA .rlca
  | .ldIndA16Sp nn => .ldA16Sp nn
  | .addHlBc => .addHl .bc
  | .ldAIndBc => .loadBc
  | .decBc => .decPair .bc
  | .incC => .inc8 (.reg .c)
  | .decC => .dec8 (.reg .c)
  | .ldCD8 n => .ldRD8 .c n
  | .rrca => .rotA .rrca
  | .stop operand => .stop operand
  | .ldDeD16 nn => .ldPairD16 .de nn
  | .ldIndDeA => .storeDe
  | .incDe => .incPair .de
  | .incD => .inc8 (.reg .d)
  | .decD => .dec8 (.reg .d)
  | .ldDD8 n => .ldRD8 .d n
  | .rla => .rotA .rla
  | .jrE8 e => .jr e
  | .addHlDe => .addHl .de
  | .ldAIndDe => .loadDe
  | .decDe => .decPair .de
  | .incE => .inc8 (.reg .e)
  | .decE => .dec8 (.reg .e)
  | .ldED8 n => .ldRD8 .e n
  | .rra => .rotA .rra
  | .jrNzE8 e => .jrCc .nz e
  | .ldHlD16 nn => .ldPairD16 .hl nn
  | .ldIndHlIncA => .storeHlInc
  | .incHl => .incPair .hl
  | .incH => .inc8 (.reg .h)
  | .decH => .dec8 (.reg .h)
  | .ldHD8 n => .ldRD8 .h n
  | .daa => .daa
  | .jrZE8 e => .jrCc .z e
  | .addHlHl => .addHl .hl
  | .ldAIndHlInc => .loadHlInc
  | .decHl => .decPair .hl
  | .incL => .inc8 (.reg .l)
  | .decL => .dec8 (.reg .l)
  | .ldLD8 n => .ldRD8 .l n
  | .cpl => .cpl
  | .jrNcE8 e => .jrCc .nc e
  | .ldSpD16 nn => .ldPairD16 .sp nn
  | .ldIndHlDecA => .storeHlDec
  | .incSp => .incPair .sp
  | .incIndHl => .inc8 .indHl
  | .decIndHl => .dec8 .indHl
  | .ldIndHlD8 n => .ldHlD8 n
  | .scf => .scf
  | .jrCE8 e => .jrCc .c e
  | .addHlSp => .addHl .sp
  | .ldAIndHlDec => .loadHlDec
  | .decSp => .decPair .sp
  | .incA => .inc8 (.reg .a)
  | .decA => .dec8 (.reg .a)
  | .ldAD8 n => .ldRD8 .a n
  | .ccf => .ccf
  | .ldBB => .ldRR .b .b
  | .ldBC => .ldRR .b .c
  | .ldBD => .ldRR .b .d
  | .ldBE => .ldRR .b .e
  | .ldBH => .ldRR .b .h
  | .ldBL => .ldRR .b .l
  | .ldBIndHl => .ldRHl .b
  | .ldBA => .ldRR .b .a
  | .ldCB => .ldRR .c .b
  | .ldCC => .ldRR .c .c
  | .ldCD => .ldRR .c .d
  | .ldCE => .ldRR .c .e
  | .ldCH => .ldRR .c .h
  | .ldCL => .ldRR .c .l
  | .ldCIndHl => .ldRHl .c
  | .ldCA => .ldRR .c .a
  | .ldDB => .ldRR .d .b
  | .ldDC => .ldRR .d .c
  | .ldDD => .ldRR .d .d
  | .ldDE => .ldRR .d .e
  | .ldDH => .ldRR .d .h
  | .ldDL => .ldRR .d .l
  | .ldDIndHl => .ldRHl .d
  | .ldDA => .ldRR .d .a
  | .ldEB => .ldRR .e .b
  | .ldEC => .ldRR .e .c
  | .ldED => .ldRR .e .d
  | .ldEE => .ldRR .e .e
  | .ldEH => .ldRR .e .h
  | .ldEL => .ldRR .e .l
  | .ldEIndHl => .ldRHl .e
  | .ldEA => .ldRR .e .a
  | .ldHB => .ldRR .h .b
  | .ldHC => .ldRR .h .c
  | .ldHD => .ldRR .h .d
  | .ldHE => .ldRR .h .e
  | .ldHH => .ldRR .h .h
  | .ldHL => .ldRR .h .l
  | .ldHIndHl => .ldRHl .h
  | .ldHA => .ldRR .h .a
  | .ldLB => .ldRR .l .b
  | .ldLC => .ldRR .l .c
  | .ldLD => .ldRR .l .d
  | .ldLE => .ldRR .l .e
  | .ldLH => .ldRR .l .h
  | .ldLL => .ldRR .l .l
  | .ldLIndHl => .ldRHl .l
  | .ldLA => .ldRR .l .a
  | .ldIndHlB => .ldHlR .b
  | .ldIndHlC => .ldHlR .c
  | .ldIndHlD => .ldHlR .d
  | .ldIndHlE => .ldHlR .e
  | .ldIndHlH => .ldHlR .h
  | .ldIndHlL => .ldHlR .l
  | .halt => .halt
  | .ldIndHlA => .ldHlR .a
  | .ldAB => .ldRR .a .b
  | .ldAC => .ldRR .a .c
  | .ldAD => .ldRR .a .d
  | .ldAE => .ldRR .a .e
  | .ldAH => .ldRR .a .h
  | .ldAL => .ldRR .a .l
  | .ldAIndHl => .ldRHl .a
  | .ldAA => .ldRR .a .a
  | .addAB => .alu .add (.reg .b)
  | .addAC => .alu .add (.reg .c)
  | .addAD => .alu .add (.reg .d)
  | .addAE => .alu .add (.reg .e)
  | .addAH => .alu .add (.reg .h)
  | .addAL => .alu .add (.reg .l)
  | .addAIndHl => .alu .add .indHl
  | .addAA => .alu .add (.reg .a)
  | .adcAB => .alu .adc (.reg .b)
  | .adcAC => .alu .adc (.reg .c)
  | .adcAD => .alu .adc (.reg .d)
  | .adcAE => .alu .adc (.reg .e)
  | .adcAH => .alu .adc (.reg .h)
  | .adcAL => .alu .adc (.reg .l)
  | .adcAIndHl => .alu .adc .indHl
  | .adcAA => .alu .adc (.reg .a)
  | .subB => .alu .sub (.reg .b)
  | .subC => .alu .sub (.reg .c)
  | .subD => .alu .sub (.reg .d)
  | .subE => .alu .sub (.reg .e)
  | .subH => .alu .sub (.reg .h)
  | .subL => .alu .sub (.reg .l)
  | .subIndHl => .alu .sub .indHl
  | .subA => .alu .sub (.reg .a)
  | .sbcAB => .alu .sbc (.reg .b)
  | .sbcAC => .alu .sbc (.reg .c)
  | .sbcAD => .alu .sbc (.reg .d)
  | .sbcAE => .alu .sbc (.reg .e)
  | .sbcAH => .alu .sbc (.reg .h)
  | .sbcAL => .alu .sbc (.reg .l)
  | .sbcAIndHl => .alu .sbc .indHl
  | .sbcAA => .alu .sbc (.reg .a)
  | .andB => .alu .and (.reg .b)
  | .andC => .alu .and (.reg .c)
  | .andD => .alu .and (.reg .d)
  | .andE => .alu .and (.reg .e)
  | .andH => .alu .and (.reg .h)
  | .andL => .alu .and (.reg .l)
  | .andIndHl => .alu .and .indHl
  | .andA => .alu .and (.reg .a)
  | .xorB => .alu .xor (.reg .b)
  | .xorC => .alu .xor (.reg .c)
  | .xorD => .alu .xor (.reg .d)
  | .xorE => .alu .xor (.reg .e)
  | .xorH => .alu .xor (.reg .h)
  | .xorL => .alu .xor (.reg .l)
  | .xorIndHl => .alu .xor .indHl
  | .xorA => .alu .xor (.reg .a)
  | .orB => .alu .or (.reg .b)
  | .orC => .alu .or (.reg .c)
  | .orD => .alu .or (.reg .d)
  | .orE => .alu .or (.reg .e)
  | .orH => .alu .or (.reg .h)
  | .orL => .alu .or (.reg .l)
  | .orIndHl => .alu .or .indHl
  | .orA => .alu .or (.reg .a)
  | .cpB => .alu .cp (.reg .b)
  | .cpC => .alu .cp (.reg .c)
  | .cpD => .alu .cp (.reg .d)
  | .cpE => .alu .cp (.reg .e)
  | .cpH => .alu .cp (.reg .h)
  | .cpL => .alu .cp (.reg .l)
  | .cpIndHl => .alu .cp .indHl
  | .cpA => .alu .cp (.reg .a)
  | .retNz => .retCc .nz
  | .popBc => .pop .bc
  | .jpNzA16 nn => .jpCc .nz nn
  | .jpA16 nn => .jp nn
  | .callNzA16 nn => .callCc .nz nn
  | .pushBc => .push .bc
  | .addAD8 n => .alu .add (.imm n)
  | .rst00 => .rst .i0
  | .retZ => .retCc .z
  | .ret => .ret
  | .jpZA16 nn => .jpCc .z nn
  | .prefixCb op2 => .prefixCb op2
  | .callZA16 nn => .callCc .z nn
  | .callA16 nn => .call nn
  | .adcAD8 n => .alu .adc (.imm n)
  | .rst08 => .rst .i1
  | .retNc => .retCc .nc
  | .popDe => .pop .de
  | .jpNcA16 nn => .jpCc .nc nn
  | .unknownD3 => .unknown .xD3
  | .callNcA16 nn => .callCc .nc nn
  | .pushDe => .push .de
  | .subD8 n => .alu .sub (.imm n)
  | .rst10 => .rst .i2
  | .retC => .retCc .c
  | .reti => .reti
  | .jpCA16 nn => .jpCc .c nn
  | .unknownDB => .unknown .xDB
  | .callCA16 nn => .callCc .c nn
  | .unknownDD => .unknown .xDD
  | .sbcAD8 n => .alu .sbc (.imm n)
  | .rst18 => .rst .i3
  | .ldhIndA8A n => .storeHigh n
  | .popHl => .pop .hl
  | .ldIndCA => .storeC
  | .unknownE3 => .unknown .xE3
  | .unknownE4 => .unknown .xE4
  | .pushHl => .push .hl
  | .andD8 n => .alu .and (.imm n)
  | .rst20 => .rst .i4
  | .addSpE8 e => .addSp e
  | .jpHl => .jpHl
  | .ldIndA16A nn => .storeA16 nn
  | .unknownEB => .unknown .xEB
  | .unknownEC => .unknown .xEC
  | .unknownED => .unknown .xED
  | .xorD8 n => .alu .xor (.imm n)
  | .rst28 => .rst .i5
  | .ldhAIndA8 n => .loadHigh n
  | .popAf => .pop .af
  | .ldAIndC => .loadC
  | .di => .di
  | .unknownF4 => .unknown .xF4
  | .pushAf => .push .af
  | .orD8 n => .alu .or (.imm n)
  | .rst30 => .rst .i6
  | .ldHlSpE8 e => .ldHlSp e
  | .ldSpHl => .ldSpHl
  | .ldAIndA16 nn => .loadA16 nn
  | .ei => .ei
  | .unknownFC => .unknown .xFC
  | .unknownFD => .unknown .xFD
  | .cpD8 n => .alu .cp (.imm n)
  | .rst38 => .rst .i7
  | .rlcB => .shift .rlc (.reg .b)
  | .rlcC => .shift .rlc (.reg .c)
  | .rlcD => .shift .rlc (.reg .d)
  | .rlcE => .shift .rlc (.reg .e)
  | .rlcH => .shift .rlc (.reg .h)
  | .rlcL => .shift .rlc (.reg .l)
  | .rlcIndHl => .shift .rlc .indHl
  | .rlcA => .shift .rlc (.reg .a)
  | .rrcB => .shift .rrc (.reg .b)
  | .rrcC => .shift .rrc (.reg .c)
  | .rrcD => .shift .rrc (.reg .d)
  | .rrcE => .shift .rrc (.reg .e)
  | .rrcH => .shift .rrc (.reg .h)
  | .rrcL => .shift .rrc (.reg .l)
  | .rrcIndHl => .shift .rrc .indHl
  | .rrcA => .shift .rrc (.reg .a)
  | .rlB => .shift .rl (.reg .b)
  | .rlC => .shift .rl (.reg .c)
  | .rlD => .shift .rl (.reg .d)
  | .rlE => .shift .rl (.reg .e)
  | .rlH => .shift .rl (.reg .h)
  | .rlL => .shift .rl (.reg .l)
  | .rlIndHl => .shift .rl .indHl
  | .rlA => .shift .rl (.reg .a)
  | .rrB => .shift .rr (.reg .b)
  | .rrC => .shift .rr (.reg .c)
  | .rrD => .shift .rr (.reg .d)
  | .rrE => .shift .rr (.reg .e)
  | .rrH => .shift .rr (.reg .h)
  | .rrL => .shift .rr (.reg .l)
  | .rrIndHl => .shift .rr .indHl
  | .rrA => .shift .rr (.reg .a)
  | .slaB => .shift .sla (.reg .b)
  | .slaC => .shift .sla (.reg .c)
  | .slaD => .shift .sla (.reg .d)
  | .slaE => .shift .sla (.reg .e)
  | .slaH => .shift .sla (.reg .h)
  | .slaL => .shift .sla (.reg .l)
  | .slaIndHl => .shift .sla .indHl
  | .slaA => .shift .sla (.reg .a)
  | .sraB => .shift .sra (.reg .b)
  | .sraC => .shift .sra (.reg .c)
  | .sraD => .shift .sra (.reg .d)
  | .sraE => .shift .sra (.reg .e)
  | .sraH => .shift .sra (.reg .h)
  | .sraL => .shift .sra (.reg .l)
  | .sraIndHl => .shift .sra .indHl
  | .sraA => .shift .sra (.reg .a)
  | .swapB => .shift .swap (.reg .b)
  | .swapC => .shift .swap (.reg .c)
  | .swapD => .shift .swap (.reg .d)
  | .swapE => .shift .swap (.reg .e)
  | .swapH => .shift .swap (.reg .h)
  | .swapL => .shift .swap (.reg .l)
  | .swapIndHl => .shift .swap .indHl
  | .swapA => .shift .swap (.reg .a)
  | .srlB => .shift .srl (.reg .b)
  | .srlC => .shift .srl (.reg .c)
  | .srlD => .shift .srl (.reg .d)
  | .srlE => .shift .srl (.reg .e)
  | .srlH => .shift .srl (.reg .h)
  | .srlL => .shift .srl (.reg .l)
  | .srlIndHl => .shift .srl .indHl
  | .srlA => .shift .srl (.reg .a)
  | .bit0B => .bit .i0 (.reg .b)
  | .bit0C => .bit .i0 (.reg .c)
  | .bit0D => .bit .i0 (.reg .d)
  | .bit0E => .bit .i0 (.reg .e)
  | .bit0H => .bit .i0 (.reg .h)
  | .bit0L => .bit .i0 (.reg .l)
  | .bit0IndHl => .bit .i0 .indHl
  | .bit0A => .bit .i0 (.reg .a)
  | .bit1B => .bit .i1 (.reg .b)
  | .bit1C => .bit .i1 (.reg .c)
  | .bit1D => .bit .i1 (.reg .d)
  | .bit1E => .bit .i1 (.reg .e)
  | .bit1H => .bit .i1 (.reg .h)
  | .bit1L => .bit .i1 (.reg .l)
  | .bit1IndHl => .bit .i1 .indHl
  | .bit1A => .bit .i1 (.reg .a)
  | .bit2B => .bit .i2 (.reg .b)
  | .bit2C => .bit .i2 (.reg .c)
  | .bit2D => .bit .i2 (.reg .d)
  | .bit2E => .bit .i2 (.reg .e)
  | .bit2H => .bit .i2 (.reg .h)
  | .bit2L => .bit .i2 (.reg .l)
  | .bit2IndHl => .bit .i2 .indHl
  | .bit2A => .bit .i2 (.reg .a)
  | .bit3B => .bit .i3 (.reg .b)
  | .bit3C => .bit .i3 (.reg .c)
  | .bit3D => .bit .i3 (.reg .d)
  | .bit3E => .bit .i3 (.reg .e)
  | .bit3H => .bit .i3 (.reg .h)
  | .bit3L => .bit .i3 (.reg .l)
  | .bit3IndHl => .bit .i3 .indHl
  | .bit3A => .bit .i3 (.reg .a)
  | .bit4B => .bit .i4 (.reg .b)
  | .bit4C => .bit .i4 (.reg .c)
  | .bit4D => .bit .i4 (.reg .d)
  | .bit4E => .bit .i4 (.reg .e)
  | .bit4H => .bit .i4 (.reg .h)
  | .bit4L => .bit .i4 (.reg .l)
  | .bit4IndHl => .bit .i4 .indHl
  | .bit4A => .bit .i4 (.reg .a)
  | .bit5B => .bit .i5 (.reg .b)
  | .bit5C => .bit .i5 (.reg .c)
  | .bit5D => .bit .i5 (.reg .d)
  | .bit5E => .bit .i5 (.reg .e)
  | .bit5H => .bit .i5 (.reg .h)
  | .bit5L => .bit .i5 (.reg .l)
  | .bit5IndHl => .bit .i5 .indHl
  | .bit5A => .bit .i5 (.reg .a)
  | .bit6B => .bit .i6 (.reg .b)
  | .bit6C => .bit .i6 (.reg .c)
  | .bit6D => .bit .i6 (.reg .d)
  | .bit6E => .bit .i6 (.reg .e)
  | .bit6H => .bit .i6 (.reg .h)
  | .bit6L => .bit .i6 (.reg .l)
  | .bit6IndHl => .bit .i6 .indHl
  | .bit6A => .bit .i6 (.reg .a)
  | .bit7B => .bit .i7 (.reg .b)
  | .bit7C => .bit .i7 (.reg .c)
  | .bit7D => .bit .i7 (.reg .d)
  | .bit7E => .bit .i7 (.reg .e)
  | .bit7H => .bit .i7 (.reg .h)
  | .bit7L => .bit .i7 (.reg .l)
  | .bit7IndHl => .bit .i7 .indHl
  | .bit7A => .bit .i7 (.reg .a)
  | .res0B => .res .i0 (.reg .b)
  | .res0C => .res .i0 (.reg .c)
  | .res0D => .res .i0 (.reg .d)
  | .res0E => .res .i0 (.reg .e)
  | .res0H => .res .i0 (.reg .h)
  | .res0L => .res .i0 (.reg .l)
  | .res0IndHl => .res .i0 .indHl
  | .res0A => .res .i0 (.reg .a)
  | .res1B => .res .i1 (.reg .b)
  | .res1C => .res .i1 (.reg .c)
  | .res1D => .res .i1 (.reg .d)
  | .res1E => .res .i1 (.reg .e)
  | .res1H => .res .i1 (.reg .h)
  | .res1L => .res .i1 (.reg .l)
  | .res1IndHl => .res .i1 .indHl
  | .res1A => .res .i1 (.reg .a)
  | .res2B => .res .i2 (.reg .b)
  | .res2C => .res .i2 (.reg .c)
  | .res2D => .res .i2 (.reg .d)
  | .res2E => .res .i2 (.reg .e)
  | .res2H => .res .i2 (.reg .h)
  | .res2L => .res .i2 (.reg .l)
  | .res2IndHl => .res .i2 .indHl
  | .res2A => .res .i2 (.reg .a)
  | .res3B => .res .i3 (.reg .b)
  | .res3C => .res .i3 (.reg .c)
  | .res3D => .res .i3 (.reg .d)
  | .res3E => .res .i3 (.reg .e)
  | .res3H => .res .i3 (.reg .h)
  | .res3L => .res .i3 (.reg .l)
  | .res3IndHl => .res .i3 .indHl
  | .res3A => .res .i3 (.reg .a)
  | .res4B => .res .i4 (.reg .b)
  | .res4C => .res .i4 (.reg .c)
  | .res4D => .res .i4 (.reg .d)
  | .res4E => .res .i4 (.reg .e)
  | .res4H => .res .i4 (.reg .h)
  | .res4L => .res .i4 (.reg .l)
  | .res4IndHl => .res .i4 .indHl
  | .res4A => .res .i4 (.reg .a)
  | .res5B => .res .i5 (.reg .b)
  | .res5C => .res .i5 (.reg .c)
  | .res5D => .res .i5 (.reg .d)
  | .res5E => .res .i5 (.reg .e)
  | .res5H => .res .i5 (.reg .h)
  | .res5L => .res .i5 (.reg .l)
  | .res5IndHl => .res .i5 .indHl
  | .res5A => .res .i5 (.reg .a)
  | .res6B => .res .i6 (.reg .b)
  | .res6C => .res .i6 (.reg .c)
  | .res6D => .res .i6 (.reg .d)
  | .res6E => .res .i6 (.reg .e)
  | .res6H => .res .i6 (.reg .h)
  | .res6L => .res .i6 (.reg .l)
  | .res6IndHl => .res .i6 .indHl
  | .res6A => .res .i6 (.reg .a)
  | .res7B => .res .i7 (.reg .b)
  | .res7C => .res .i7 (.reg .c)
  | .res7D => .res .i7 (.reg .d)
  | .res7E => .res .i7 (.reg .e)
  | .res7H => .res .i7 (.reg .h)
  | .res7L => .res .i7 (.reg .l)
  | .res7IndHl => .res .i7 .indHl
  | .res7A => .res .i7 (.reg .a)
  | .set0B => .set .i0 (.reg .b)
  | .set0C => .set .i0 (.reg .c)
  | .set0D => .set .i0 (.reg .d)
  | .set0E => .set .i0 (.reg .e)
  | .set0H => .set .i0 (.reg .h)
  | .set0L => .set .i0 (.reg .l)
  | .set0IndHl => .set .i0 .indHl
  | .set0A => .set .i0 (.reg .a)
  | .set1B => .set .i1 (.reg .b)
  | .set1C => .set .i1 (.reg .c)
  | .set1D => .set .i1 (.reg .d)
  | .set1E => .set .i1 (.reg .e)
  | .set1H => .set .i1 (.reg .h)
  | .set1L => .set .i1 (.reg .l)
  | .set1IndHl => .set .i1 .indHl
  | .set1A => .set .i1 (.reg .a)
  | .set2B => .set .i2 (.reg .b)
  | .set2C => .set .i2 (.reg .c)
  | .set2D => .set .i2 (.reg .d)
  | .set2E => .set .i2 (.reg .e)
  | .set2H => .set .i2 (.reg .h)
  | .set2L => .set .i2 (.reg .l)
  | .set2IndHl => .set .i2 .indHl
  | .set2A => .set .i2 (.reg .a)
  | .set3B => .set .i3 (.reg .b)
  | .set3C => .set .i3 (.reg .c)
  | .set3D => .set .i3 (.reg .d)
  | .set3E => .set .i3 (.reg .e)
  | .set3H => .set .i3 (.reg .h)
  | .set3L => .set .i3 (.reg .l)
  | .set3IndHl => .set .i3 .indHl
  | .set3A => .set .i3 (.reg .a)
  | .set4B => .set .i4 (.reg .b)
  | .set4C => .set .i4 (.reg .c)
  | .set4D => .set .i4 (.reg .d)
  | .set4E => .set .i4 (.reg .e)
  | .set4H => .set .i4 (.reg .h)
  | .set4L => .set .i4 (.reg .l)
  | .set4IndHl => .set .i4 .indHl
  | .set4A => .set .i4 (.reg .a)
  | .set5B => .set .i5 (.reg .b)
  | .set5C => .set .i5 (.reg .c)
  | .set5D => .set .i5 (.reg .d)
  | .set5E => .set .i5 (.reg .e)
  | .set5H => .set .i5 (.reg .h)
  | .set5L => .set .i5 (.reg .l)
  | .set5IndHl => .set .i5 .indHl
  | .set5A => .set .i5 (.reg .a)
  | .set6B => .set .i6 (.reg .b)
  | .set6C => .set .i6 (.reg .c)
  | .set6D => .set .i6 (.reg .d)
  | .set6E => .set .i6 (.reg .e)
  | .set6H => .set .i6 (.reg .h)
  | .set6L => .set .i6 (.reg .l)
  | .set6IndHl => .set .i6 .indHl
  | .set6A => .set .i6 (.reg .a)
  | .set7B => .set .i7 (.reg .b)
  | .set7C => .set .i7 (.reg .c)
  | .set7D => .set .i7 (.reg .d)
  | .set7E => .set .i7 (.reg .e)
  | .set7H => .set .i7 (.reg .h)
  | .set7L => .set .i7 (.reg .l)
  | .set7IndHl => .set .i7 .indHl
  | .set7A => .set .i7 (.reg .a)

/-- Every row is the row of its form. -/
theorem Instr.instr_form (i : Instr) : i.form.instr = i := by cases i <;> rfl

/-- A claim about every instruction is a claim about every form. -/
theorem Instr.forall_of_form {P : Instr → Prop} (h : ∀ f : Form, P f.instr) (i : Instr) : P i :=
  i.instr_form ▸ h i.form

namespace Machine

/-! ### What exec runs for each form -/

theorem exec_nop (s : State) :
    exec Instr.nop s = advance 1 s s := rfl

theorem exec_halt (s : State) :
    exec Instr.halt s = advance 1 s s.halt := rfl

theorem exec_stop (n : Byte) (s : State) :
    exec (Instr.stop n) s = execStop n s := rfl

theorem exec_di (s : State) :
    exec Instr.di s = advance 1 s { s with ime := false, imePending := false } := rfl

theorem exec_ei (s : State) :
    exec Instr.ei s = advance 1 s { s with imePending := true } := rfl

theorem exec_unknown (u : UnknownOp) (s : State) :
    exec (Instr.unknown u) s = unknownOpcode u.byte s := by cases u <;> rfl

theorem exec_prefixCb (op2 : Byte) (s : State) :
    exec (Instr.prefixCb op2) s = cbPrefix op2 s := rfl

theorem exec_alu (op : AluOp) (src : AluSrc) (s : State) :
    exec (Instr.alu op src) s = alu8 op src s := by cases op <;> (rcases src with r | _ | _ <;> [cases r; skip; skip]) <;> rfl

theorem exec_inc8 (o : Opnd8) (s : State) :
    exec (Instr.inc8 o) s = Machine.inc8 o s := by (rcases o with r | _ <;> [cases r; skip]) <;> rfl

theorem exec_dec8 (o : Opnd8) (s : State) :
    exec (Instr.dec8 o) s = Machine.dec8 o s := by (rcases o with r | _ <;> [cases r; skip]) <;> rfl

theorem exec_rotA (op : RotA) (s : State) :
    exec (Instr.rotA op) s = rotateA op s := by cases op <;> rfl

theorem exec_daa (s : State) :
    exec Instr.daa s = adjustA s := rfl

theorem exec_cpl (s : State) :
    exec Instr.cpl s = execCpl s := rfl

theorem exec_scf (s : State) :
    exec Instr.scf s = execScf s := rfl

theorem exec_ccf (s : State) :
    exec Instr.ccf s = execCcf s := rfl

theorem exec_incPair (p : Pair) (s : State) :
    exec (Instr.incPair p) s = Machine.incPair p s := by cases p <;> rfl

theorem exec_decPair (p : Pair) (s : State) :
    exec (Instr.decPair p) s = Machine.decPair p s := by cases p <;> rfl

theorem exec_addHl (p : Pair) (s : State) :
    exec (Instr.addHlPair p) s = Machine.addHl p s := by cases p <;> rfl

theorem exec_addSp (e : Byte) (s : State) :
    exec (Instr.addSpE8 e) s = execAddSpE8 e s := rfl

theorem exec_ldHlSp (e : Byte) (s : State) :
    exec (Instr.ldHlSpE8 e) s = execLdHlSpE8 e s := rfl

theorem exec_jr (e : Byte) (s : State) :
    exec (Instr.jrE8 e) s = jumpRelative true e s := rfl

theorem exec_jrCc (cc : Cond) (e : Byte) (s : State) :
    exec (Instr.jrCc cc e) s = jumpRelative (s.cond cc) e s := by cases cc <;> rfl

theorem exec_jp (nn : Word) (s : State) :
    exec (Instr.jpA16 nn) s = jumpTo true nn s := rfl

theorem exec_jpCc (cc : Cond) (nn : Word) (s : State) :
    exec (Instr.jpCc cc nn) s = jumpTo (s.cond cc) nn s := by cases cc <;> rfl

theorem exec_jpHl (s : State) :
    exec Instr.jpHl s = endStep s s.hl s := rfl

theorem exec_call (nn : Word) (s : State) :
    exec (Instr.callA16 nn) s = callTo true nn s := rfl

theorem exec_callCc (cc : Cond) (nn : Word) (s : State) :
    exec (Instr.callCc cc nn) s = callTo (s.cond cc) nn s := by cases cc <;> rfl

theorem exec_ret (s : State) :
    exec Instr.ret s = returnIf true s := rfl

theorem exec_retCc (cc : Cond) (s : State) :
    exec (Instr.retCc cc) s = returnIf (s.cond cc) s := by cases cc <;> rfl

theorem exec_reti (s : State) :
    exec Instr.reti s = execReti s := rfl

theorem exec_rst (t : Idx8) (s : State) :
    exec (Instr.rst t) s = restart t s := by cases t <;> rfl

theorem exec_push (p : StackPair) (s : State) :
    exec (Instr.push p) s = pushPair p s := by cases p <;> rfl

theorem exec_pop (p : StackPair) (s : State) :
    exec (Instr.pop p) s = popPair p s := by cases p <;> rfl

theorem exec_ldSpHl (s : State) :
    exec Instr.ldSpHl s = advance 1 s { s with sp := s.hl } := rfl

theorem exec_ldA16Sp (nn : Word) (s : State) :
    exec (Instr.ldIndA16Sp nn) s = advance 3 s (s.write16 nn s.sp) := rfl

theorem exec_ldRR (dst : Reg8) (src : Reg8) (s : State) :
    exec (Instr.ldRR dst src) s = loadReg dst src s := by cases dst <;> cases src <;> rfl

theorem exec_ldRHl (dst : Reg8) (s : State) :
    exec (Instr.ldRHl dst) s = loadRegHl dst s := by cases dst <;> rfl

theorem exec_ldHlR (src : Reg8) (s : State) :
    exec (Instr.ldHlR src) s = storeHl 1 (s.reg src) s := by cases src <;> rfl

theorem exec_ldRD8 (dst : Reg8) (n : Byte) (s : State) :
    exec (Instr.ldRD8 dst n) s = loadRegImm dst n s := by cases dst <;> rfl

theorem exec_ldHlD8 (n : Byte) (s : State) :
    exec (Instr.ldIndHlD8 n) s = storeHl 2 n s := rfl

theorem exec_ldPairD16 (p : Pair) (nn : Word) (s : State) :
    exec (Instr.ldPairD16 p nn) s = loadPairImm p nn s := by cases p <;> rfl

theorem exec_storeBc (s : State) :
    exec Instr.ldIndBcA s = storeA 1 s.bc s := rfl

theorem exec_storeDe (s : State) :
    exec Instr.ldIndDeA s = storeA 1 s.de s := rfl

theorem exec_storeHlInc (s : State) :
    exec Instr.ldIndHlIncA s = execLdIndHlIncA s := rfl

theorem exec_storeHlDec (s : State) :
    exec Instr.ldIndHlDecA s = execLdIndHlDecA s := rfl

theorem exec_loadBc (s : State) :
    exec Instr.ldAIndBc s = loadA 1 s.bc s := rfl

theorem exec_loadDe (s : State) :
    exec Instr.ldAIndDe s = loadA 1 s.de s := rfl

theorem exec_loadHlInc (s : State) :
    exec Instr.ldAIndHlInc s = execLdAIndHlInc s := rfl

theorem exec_loadHlDec (s : State) :
    exec Instr.ldAIndHlDec s = execLdAIndHlDec s := rfl

theorem exec_storeA16 (nn : Word) (s : State) :
    exec (Instr.ldIndA16A nn) s = storeA 3 nn s := rfl

theorem exec_loadA16 (nn : Word) (s : State) :
    exec (Instr.ldAIndA16 nn) s = loadA 3 nn s := rfl

theorem exec_storeHigh (n : Byte) (s : State) :
    exec (Instr.ldhIndA8A n) s = storeA 2 (highPage n) s := rfl

theorem exec_loadHigh (n : Byte) (s : State) :
    exec (Instr.ldhAIndA8 n) s = loadA 2 (highPage n) s := rfl

theorem exec_storeC (s : State) :
    exec Instr.ldIndCA s = storeA 1 (highPage s.c) s := rfl

theorem exec_loadC (s : State) :
    exec Instr.ldAIndC s = loadA 1 (highPage s.c) s := rfl

theorem exec_shift (op : ShiftOp) (o : Opnd8) (s : State) :
    exec (Instr.shift op o) s = shift8 op o s := by cases op <;> (rcases o with r | _ <;> [cases r; skip]) <;> rfl

theorem exec_bit (b : Idx8) (o : Opnd8) (s : State) :
    exec (Instr.bit b o) s = bit8 b o s := by cases b <;> (rcases o with r | _ <;> [cases r; skip]) <;> rfl

theorem exec_res (b : Idx8) (o : Opnd8) (s : State) :
    exec (Instr.res b o) s = res8 b o s := by cases b <;> (rcases o with r | _ <;> [cases r; skip]) <;> rfl

theorem exec_set (b : Idx8) (o : Opnd8) (s : State) :
    exec (Instr.set b o) s = set8 b o s := by cases b <;> (rcases o with r | _ <;> [cases r; skip]) <;> rfl

/-! ### The ends of a step -/

theorem endStep_eq (s0 : State) (pc : Word) (s : State) :
    endStep s0 pc s = .next (State.settleIme s0.imePending { s with pc := pc }) := rfl

theorem advance_eq (len : Nat) (s0 s : State) :
    advance len s0 s = .next (State.settleIme s0.imePending { s with pc := s0.nextPc len }) := rfl

/-- The EI-delay lines as R102 writes them. -/
theorem settleIme_eq_if (w : Bool) (s : State) :
    State.settleIme w s =
      if w = true ∧ s.imePending = true then { s with ime := true, imePending := false } else s := by
  cases w <;> cases h : s.imePending <;> simp [State.settleIme, h] <;> cases s <;> simp_all

/-- A handler that leaves IME and its pending bit as the step found them ends as `State.ended` says. -/
theorem endStep_ended {s0 s : State} (pc : Word) (h : s.imePending = s0.imePending) :
    endStep s0 pc s = .next (s.ended pc) := by
  simp [endStep, State.settleIme, State.ended, h]

theorem advance_ended {s0 s : State} (len : Nat) (h : s.imePending = s0.imePending) :
    advance len s0 s = .next (s.ended (s0.nextPc len)) := endStep_ended _ h

/-- A step exists exactly where R110 says. -/
theorem noStep_eq_none (s : State) : noStep s = none ↔ s.running = true ∧ s.refused = none := by
  unfold noStep
  split
  · rename_i hr
    split <;> simp_all
  · simp_all

theorem step_eq_exec {s : State} (hr : s.running = true) (hf : s.refused = none) :
    step s = exec (fetch s) s := by
  unfold step
  rw [(noStep_eq_none s).2 ⟨hr, hf⟩]

end Machine

end Sys2Proof
end

