-- ==== Sys2Proof/Laws/Step.lean ====
section
/-! SUPPORT. What a step can do, said once: the inversion lemma `exec_effect` over the 59 forms, and the
addresses each storing form stores to. -/

namespace Sys2Proof.Machine

/-- A handler wrote registers, flags, SP and bytes of memory at most: every other field is as it was. -/
structure Kept (s0 s : State) : Prop where
  params : s.params = s0.params := by first | rfl | simp
  running : s.running = s0.running := by first | rfl | simp
  refused : s.refused = s0.refused := by first | rfl | simp
  events : s.events = s0.events := by first | rfl | simp
  memWf : Memory.wf s0.mem = true → Memory.wf s.mem = true := by first | exact id | simp
  ime : s.ime = s0.ime := by first | rfl | simp
  imePending : s.imePending = s0.imePending := by first | rfl | simp

/-- What an instruction that is not refused does to every field a handler of `Kept` leaves alone. -/
structure Ordinary (i : Instr) (s t : State) : Prop where
  params : t.params = s.params
  running : t.running = s.running ∨ t.running = false ∧ (i = .halt ∨ i = .stop 0x00)
  refused : t.refused = s.refused
  events : t.events = s.events ∨
    ∃ u, i = Instr.unknown u ∧ s.params.unknownOpcode = .skip ∧
      t.events = s.events ++ [Event.mk s.pc u.byte]
  memWf : Memory.wf s.mem = true → Memory.wf t.mem = true
  ime : (i = .di ∧ t.ime = false ∧ t.imePending = false) ∨
    (i = .ei ∧ t.ime = (s.ime || s.imePending) ∧ t.imePending = !s.imePending) ∨
    (i = .reti ∧ t.ime = true ∧ t.imePending = false) ∨
    t.ime = (s.ime || s.imePending) ∧ t.imePending = false

/-- What a step can do: the ordinary effect, or a refusal's mark and nothing else (R34, R102). -/
def Effect (i : Instr) (s t : State) : Prop :=
  Ordinary i s t ∨
  t = { s with refused := t.refused } ∧
    ((∃ op2, i = .prefixCb op2 ∧ s.params.cbPrefix = .refuse ∧ t.refused = some .cbPrefixRefused) ∨
     (∃ b, i = .stop b ∧ b ≠ 0x00 ∧ t.refused = some .stopNonZeroOperand))

theorem endStep_effect {i : Instr} {s0 s : State} (pc : Word) (h : Kept s0 s) :
    ∃ t, endStep s0 pc s = .next t ∧ Effect i s0 t :=
  ⟨_, endStep_ended pc h.imePending, .inl ⟨h.params, .inl h.running, h.refused, .inl h.events, h.memWf,
    .inr (.inr (.inr ⟨by simp [h.ime, h.imePending], rfl⟩))⟩⟩

theorem advance_effect {i : Instr} {s0 s : State} (len : Nat) (h : Kept s0 s) :
    ∃ t, advance len s0 s = .next t ∧ Effect i s0 t := endStep_effect _ h

/-- Halting and nothing else: HALT, and STOP with the zero operand (R104, R105). -/
theorem advance_halt_effect {i : Instr} (s : State) (len : Nat) (hi : i = .halt ∨ i = .stop 0x00) :
    ∃ t, advance len s s.halt = .next t ∧ Effect i s t :=
  ⟨_, advance_ended len rfl,
    .inl ⟨rfl, .inr ⟨rfl, hi⟩, rfl, .inl rfl, id, .inr (.inr (.inr ⟨rfl, rfl⟩))⟩⟩

theorem setOpnd_kept (s : State) (o : Opnd8) (v : Byte) : Kept s (s.setOpnd o v) :=
  { memWf := State.setOpnd_wf o v }

theorem setFlags_kept {s0 s : State} (z n h c : Bool) (k : Kept s0 s) : Kept s0 (s.setFlags z n h c) :=
  ⟨k.params, k.running, k.refused, k.events, k.memWf, k.ime, k.imePending⟩

theorem cbTable_effect (i : Instr) (op2 : Byte) (s : State) :
    ∃ t, cbTable op2 s = .next t ∧ Effect i s t := by
  unfold cbTable
  cases xField op2
  · exact advance_effect _ (setFlags_kept _ _ _ _ (setOpnd_kept _ _ _))
  · exact advance_effect _ {}
  · exact advance_effect _ (setOpnd_kept _ _ _)
  · exact advance_effect _ (setOpnd_kept _ _ _)

/-- The CB map run through the row 0xCB is the CB map's own row (R89, R109). -/
theorem cbTable_eq_exec (op2 : Byte) (s : State) : cbTable op2 s = exec (decodeCb op2) s := by
  unfold cbTable decodeCb
  cases xField op2 <;> simp [exec_shift, exec_bit, exec_res, exec_set]

/-- Every instruction answers a next state, and what it can be outside registers, flags, SP, PC and the
bytes of memory. -/
theorem exec_effect (i : Instr) (s : State) : ∃ t, exec i s = .next t ∧ Effect i s t := by
  refine Instr.forall_of_form (P := fun i => ∃ t, exec i s = .next t ∧ Effect i s t) (fun f => ?_) i
  cases f <;> simp only [Form.instr]
  case halt => exact advance_halt_effect s 1 (.inl rfl)
  case stop n =>
    rw [exec_stop, execStop]
    by_cases h : n = 0x00
    · rw [if_pos h]; exact advance_halt_effect s 2 (.inr (by rw [h]))
    · rw [if_neg h]; exact ⟨_, rfl, .inr ⟨rfl, .inr ⟨n, rfl, h, rfl⟩⟩⟩
  case di => exact ⟨_, rfl, .inl ⟨rfl, .inl rfl, rfl, .inl rfl, id, .inl (by simp [State.settleIme])⟩⟩
  case ei => exact ⟨_, rfl, .inl ⟨rfl, .inl rfl, rfl, .inl rfl, id, .inr (.inl (by simp [State.settleIme]))⟩⟩
  case reti =>
    exact ⟨_, rfl, .inl ⟨rfl, .inl rfl, rfl, .inl rfl, id, .inr (.inr (.inl (by simp [State.settleIme])))⟩⟩
  case unknown u =>
    rw [exec_unknown, unknownOpcode]
    split
    · exact ⟨_, advance_ended 1 rfl, .inl ⟨rfl, .inl rfl, rfl, .inr ⟨u, rfl, ‹_›, rfl⟩, id,
        .inr (.inr (.inr ⟨rfl, rfl⟩))⟩⟩
    · exact endStep_effect _ {}
  case prefixCb op2 =>
    rw [exec_prefixCb, cbPrefix]
    split
    · exact ⟨_, rfl, .inr ⟨rfl, .inl ⟨op2, rfl, ‹_›, rfl⟩⟩⟩
    · exact cbTable_effect _ _ _
  case alu op src => rw [exec_alu, alu8]; cases op <;> exact advance_effect _ {}
  case inc8 o => rw [exec_inc8]; exact advance_effect _ (setFlags_kept _ _ _ _ (setOpnd_kept _ _ _))
  case dec8 o => rw [exec_dec8]; exact advance_effect _ (setFlags_kept _ _ _ _ (setOpnd_kept _ _ _))
  case rotA op => rw [exec_rotA]; exact advance_effect _ {}
  case incPair p => rw [exec_incPair]; exact advance_effect _ {}
  case decPair p => rw [exec_decPair]; exact advance_effect _ {}
  case addHl p => rw [exec_addHl]; exact advance_effect _ {}
  case jrCc cc e => rw [exec_jrCc, jumpRelative]; split <;> exact endStep_effect _ {}
  case jpCc cc nn => rw [exec_jpCc, jumpTo]; split <;> exact endStep_effect _ {}
  case call nn => exact endStep_effect _ { memWf := State.push16_wf _ }
  case callCc cc nn =>
    rw [exec_callCc, callTo]
    split
    · exact endStep_effect _ { memWf := State.push16_wf _ }
    · exact advance_effect _ {}
  case retCc cc => rw [exec_retCc, returnIf]; split <;> exact endStep_effect _ {}
  case rst t => rw [exec_rst]; exact endStep_effect _ { memWf := State.push16_wf _ }
  case push p => rw [exec_push]; exact advance_effect _ { memWf := State.push16_wf _ }
  case pop p => rw [exec_pop]; exact advance_effect _ {}
  case ldA16Sp nn => exact advance_effect _ { memWf := State.write16_wf _ _ }
  case ldRR dst src => rw [exec_ldRR]; exact advance_effect _ {}
  case ldRHl dst => rw [exec_ldRHl]; exact advance_effect _ {}
  case ldHlR src => rw [exec_ldHlR]; exact advance_effect _ { memWf := State.write8_wf _ _ }
  case ldRD8 dst n => rw [exec_ldRD8]; exact advance_effect _ {}
  case ldPairD16 p nn => rw [exec_ldPairD16]; exact advance_effect _ {}
  case storeBc => exact advance_effect _ { memWf := State.write8_wf _ _ }
  case storeDe => exact advance_effect _ { memWf := State.write8_wf _ _ }
  case storeC => exact advance_effect _ { memWf := State.write8_wf _ _ }
  case storeHlInc => exact advance_effect _ { memWf := State.write8_wf _ _ }
  case storeHlDec => exact advance_effect _ { memWf := State.write8_wf _ _ }
  case storeA16 nn => exact advance_effect _ { memWf := State.write8_wf _ _ }
  case storeHigh n => exact advance_effect _ { memWf := State.write8_wf _ _ }
  case ldHlD8 n => exact advance_effect _ { memWf := State.write8_wf _ _ }
  case shift op o => rw [exec_shift]; exact advance_effect _ (setFlags_kept _ _ _ _ (setOpnd_kept _ _ _))
  case bit b o => rw [exec_bit]; exact advance_effect _ {}
  case res b o => rw [exec_res]; exact advance_effect _ (setOpnd_kept _ _ _)
  case set b o => rw [exec_set]; exact advance_effect _ (setOpnd_kept _ _ _)
  all_goals exact endStep_effect _ {}

/-- The inversion of a next state. -/
theorem effect_of_exec {i : Instr} {s t : State} (h : exec i s = .next t) : Effect i s t := by
  obtain ⟨u, hu, he⟩ := exec_effect i s
  rw [hu] at h
  cases h
  exact he

/-! ### Where the storing forms store -/

theorem setOpnd_read8 (s : State) (o : Opnd8) (v : Byte) (a : Word) (h : o = .indHl → a ≠ s.hl) :
    (s.setOpnd o v).read8 a = s.read8 a := by
  cases o with
  | reg r => cases r <;> rfl
  | indHl => exact State.read8_write8_other _ (h rfl)

theorem storeAddresses_inc8 (s : State) : storeAddresses (Instr.inc8 .indHl) s = [s.hl] := rfl

theorem storeAddresses_dec8 (s : State) : storeAddresses (Instr.dec8 .indHl) s = [s.hl] := rfl

theorem storeAddresses_ldHlR (r : Reg8) (s : State) : storeAddresses (Instr.ldHlR r) s = [s.hl] := by
  cases r <;> rfl

theorem storeAddresses_push (p : StackPair) (s : State) :
    storeAddresses (Instr.push p) s = pushAddresses s := by cases p <;> rfl

theorem storeAddresses_rst (t : Idx8) (s : State) :
    storeAddresses (Instr.rst t) s = pushAddresses s := by cases t <;> rfl

theorem storeAddresses_callCc (cc : Cond) (nn : Word) (s : State) :
    storeAddresses (Instr.callCc cc nn) s = if s.cond cc then pushAddresses s else [] := by cases cc <;> rfl

theorem storeAddresses_ldA16Sp (nn : Word) (s : State) :
    storeAddresses (.ldIndA16Sp nn) s = [nn, nn + 1] := rfl

theorem storeAddresses_shift (op : ShiftOp) (s : State) :
    storeAddresses (Instr.shift op .indHl) s = [s.hl] := by cases op <;> rfl

theorem storeAddresses_res (b : Idx8) (s : State) :
    storeAddresses (Instr.res b .indHl) s = [s.hl] := by cases b <;> rfl

theorem storeAddresses_set (b : Idx8) (s : State) :
    storeAddresses (Instr.set b .indHl) s = [s.hl] := by cases b <;> rfl

theorem storeAddresses_prefixCb (op2 : Byte) (s : State) :
    storeAddresses (.prefixCb op2) s =
      match s.params.cbPrefix, xField op2, opnd8 (zField op2) with
      | .execute, .i0, .indHl => [s.hl]
      | .execute, .i2, .indHl => [s.hl]
      | .execute, .i3, .indHl => [s.hl]
      | _, _, _ => [] := rfl

end Sys2Proof.Machine
end

