-- ==== Sys2Proof/WellFormed.lean ====
section
/-! DEFINITION. Which terms of `Instr` are instructions of the table. Operand widths are in the types, so
one check remains. -/

namespace Sys2Proof

/-- STOP's row requires the operand 0x00 (R91: "The encoding `0x10 0x00` is STOP"; 0x10 with another
byte is refused). Every other field admits every value. DESIGN CHOICE (log 12). -/
def Instr.wellFormed : Instr → Bool
  | .stop operand => operand == 0x00
  | _ => true

end Sys2Proof
end

