-- ==== Sys2Proof/Tests/Slice0.lean ====
section
/-! SUPPORT. The model's own tests. The expected decodings are the opcode maps R85 and R90, cell by cell;
the expected states are the vectors of spec/95_test_vectors.md, cited by their part (V1 to V11). Then one
witness for the hypotheses of each statement, clause by clause. -/

namespace Sys2Proof.Tests

open Sys2Proof.Machine Sys2Proof.Claims

/-! ### Helpers -/

/-- The start state of the vectors: reset, with PC at 0x0100. -/
def vec : State := { State.reset with pc := 0x0100 }

/-- Bytes placed from an address on. -/
def place : Word → List Byte → State → State
  | _, [], s => s
  | a, v :: rest, s => place (a + 1) rest (s.write8 a v)

/-- Bytes placed one by one. -/
def poke : List (Word × Byte) → State → State
  | [], s => s
  | (a, v) :: rest, s => poke rest (s.write8 a v)

/-- The state one step after `bytes` at PC. -/
def after (s : State) (bytes : List Byte) : Option State :=
  match step (place s.pc bytes s) with
  | .next t => some t
  | _ => none

/-- The parameters of reset with one value changed. -/
def derive : Params := { Params.model with incDecCarry := .derive }
def stuck : Params := { Params.model with unknownOpcode := .stuck }
def refusing : Params := { Params.model with cbPrefix := .refuse }

/-! ### Decoding: every cell of the two maps, immediates 0x34 0x12 -/

theorem test_decode_first_0 : (List.range 16).map (fun n => decodeAt .refuse (BitVec.ofNat 8 (0x00 + n)) 0x34 0x12) =
    [.nop, .ldBcD16 0x1234, .ldIndBcA, .incBc,
     .incB, .decB, .ldBD8 0x34, .rlca,
     .ldIndA16Sp 0x1234, .addHlBc, .ldAIndBc, .decBc,
     .incC, .decC, .ldCD8 0x34, .rrca] := by decide

theorem test_decode_first_1 : (List.range 16).map (fun n => decodeAt .refuse (BitVec.ofNat 8 (0x10 + n)) 0x34 0x12) =
    [.stop 0x34, .ldDeD16 0x1234, .ldIndDeA, .incDe,
     .incD, .decD, .ldDD8 0x34, .rla,
     .jrE8 0x34, .addHlDe, .ldAIndDe, .decDe,
     .incE, .decE, .ldED8 0x34, .rra] := by decide

theorem test_decode_first_2 : (List.range 16).map (fun n => decodeAt .refuse (BitVec.ofNat 8 (0x20 + n)) 0x34 0x12) =
    [.jrNzE8 0x34, .ldHlD16 0x1234, .ldIndHlIncA, .incHl,
     .incH, .decH, .ldHD8 0x34, .daa,
     .jrZE8 0x34, .addHlHl, .ldAIndHlInc, .decHl,
     .incL, .decL, .ldLD8 0x34, .cpl] := by decide

theorem test_decode_first_3 : (List.range 16).map (fun n => decodeAt .refuse (BitVec.ofNat 8 (0x30 + n)) 0x34 0x12) =
    [.jrNcE8 0x34, .ldSpD16 0x1234, .ldIndHlDecA, .incSp,
     .incIndHl, .decIndHl, .ldIndHlD8 0x34, .scf,
     .jrCE8 0x34, .addHlSp, .ldAIndHlDec, .decSp,
     .incA, .decA, .ldAD8 0x34, .ccf] := by decide

theorem test_decode_first_4 : (List.range 16).map (fun n => decodeAt .refuse (BitVec.ofNat 8 (0x40 + n)) 0x34 0x12) =
    [.ldBB, .ldBC, .ldBD, .ldBE,
     .ldBH, .ldBL, .ldBIndHl, .ldBA,
     .ldCB, .ldCC, .ldCD, .ldCE,
     .ldCH, .ldCL, .ldCIndHl, .ldCA] := by decide

theorem test_decode_first_5 : (List.range 16).map (fun n => decodeAt .refuse (BitVec.ofNat 8 (0x50 + n)) 0x34 0x12) =
    [.ldDB, .ldDC, .ldDD, .ldDE,
     .ldDH, .ldDL, .ldDIndHl, .ldDA,
     .ldEB, .ldEC, .ldED, .ldEE,
     .ldEH, .ldEL, .ldEIndHl, .ldEA] := by decide

theorem test_decode_first_6 : (List.range 16).map (fun n => decodeAt .refuse (BitVec.ofNat 8 (0x60 + n)) 0x34 0x12) =
    [.ldHB, .ldHC, .ldHD, .ldHE,
     .ldHH, .ldHL, .ldHIndHl, .ldHA,
     .ldLB, .ldLC, .ldLD, .ldLE,
     .ldLH, .ldLL, .ldLIndHl, .ldLA] := by decide

theorem test_decode_first_7 : (List.range 16).map (fun n => decodeAt .refuse (BitVec.ofNat 8 (0x70 + n)) 0x34 0x12) =
    [.ldIndHlB, .ldIndHlC, .ldIndHlD, .ldIndHlE,
     .ldIndHlH, .ldIndHlL, .halt, .ldIndHlA,
     .ldAB, .ldAC, .ldAD, .ldAE,
     .ldAH, .ldAL, .ldAIndHl, .ldAA] := by decide

theorem test_decode_first_8 : (List.range 16).map (fun n => decodeAt .refuse (BitVec.ofNat 8 (0x80 + n)) 0x34 0x12) =
    [.addAB, .addAC, .addAD, .addAE,
     .addAH, .addAL, .addAIndHl, .addAA,
     .adcAB, .adcAC, .adcAD, .adcAE,
     .adcAH, .adcAL, .adcAIndHl, .adcAA] := by decide

theorem test_decode_first_9 : (List.range 16).map (fun n => decodeAt .refuse (BitVec.ofNat 8 (0x90 + n)) 0x34 0x12) =
    [.subB, .subC, .subD, .subE,
     .subH, .subL, .subIndHl, .subA,
     .sbcAB, .sbcAC, .sbcAD, .sbcAE,
     .sbcAH, .sbcAL, .sbcAIndHl, .sbcAA] := by decide

theorem test_decode_first_A : (List.range 16).map (fun n => decodeAt .refuse (BitVec.ofNat 8 (0xA0 + n)) 0x34 0x12) =
    [.andB, .andC, .andD, .andE,
     .andH, .andL, .andIndHl, .andA,
     .xorB, .xorC, .xorD, .xorE,
     .xorH, .xorL, .xorIndHl, .xorA] := by decide

theorem test_decode_first_B : (List.range 16).map (fun n => decodeAt .refuse (BitVec.ofNat 8 (0xB0 + n)) 0x34 0x12) =
    [.orB, .orC, .orD, .orE,
     .orH, .orL, .orIndHl, .orA,
     .cpB, .cpC, .cpD, .cpE,
     .cpH, .cpL, .cpIndHl, .cpA] := by decide

theorem test_decode_first_C : (List.range 16).map (fun n => decodeAt .refuse (BitVec.ofNat 8 (0xC0 + n)) 0x34 0x12) =
    [.retNz, .popBc, .jpNzA16 0x1234, .jpA16 0x1234,
     .callNzA16 0x1234, .pushBc, .addAD8 0x34, .rst00,
     .retZ, .ret, .jpZA16 0x1234, .prefixCb 0x34,
     .callZA16 0x1234, .callA16 0x1234, .adcAD8 0x34, .rst08] := by decide

theorem test_decode_first_D : (List.range 16).map (fun n => decodeAt .refuse (BitVec.ofNat 8 (0xD0 + n)) 0x34 0x12) =
    [.retNc, .popDe, .jpNcA16 0x1234, .unknownD3,
     .callNcA16 0x1234, .pushDe, .subD8 0x34, .rst10,
     .retC, .reti, .jpCA16 0x1234, .unknownDB,
     .callCA16 0x1234, .unknownDD, .sbcAD8 0x34, .rst18] := by decide

theorem test_decode_first_E : (List.range 16).map (fun n => decodeAt .refuse (BitVec.ofNat 8 (0xE0 + n)) 0x34 0x12) =
    [.ldhIndA8A 0x34, .popHl, .ldIndCA, .unknownE3,
     .unknownE4, .pushHl, .andD8 0x34, .rst20,
     .addSpE8 0x34, .jpHl, .ldIndA16A 0x1234, .unknownEB,
     .unknownEC, .unknownED, .xorD8 0x34, .rst28] := by decide

theorem test_decode_first_F : (List.range 16).map (fun n => decodeAt .refuse (BitVec.ofNat 8 (0xF0 + n)) 0x34 0x12) =
    [.ldhAIndA8 0x34, .popAf, .ldAIndC, .di,
     .unknownF4, .pushAf, .orD8 0x34, .rst30,
     .ldHlSpE8 0x34, .ldSpHl, .ldAIndA16 0x1234, .ei,
     .unknownFC, .unknownFD, .cpD8 0x34, .rst38] := by decide

theorem test_decode_cb_0 : (List.range 16).map (fun n => decodeAt .execute 0xCB (BitVec.ofNat 8 (0x00 + n)) 0x12) =
    [.rlcB, .rlcC, .rlcD, .rlcE,
     .rlcH, .rlcL, .rlcIndHl, .rlcA,
     .rrcB, .rrcC, .rrcD, .rrcE,
     .rrcH, .rrcL, .rrcIndHl, .rrcA] := by decide

theorem test_decode_cb_1 : (List.range 16).map (fun n => decodeAt .execute 0xCB (BitVec.ofNat 8 (0x10 + n)) 0x12) =
    [.rlB, .rlC, .rlD, .rlE,
     .rlH, .rlL, .rlIndHl, .rlA,
     .rrB, .rrC, .rrD, .rrE,
     .rrH, .rrL, .rrIndHl, .rrA] := by decide

theorem test_decode_cb_2 : (List.range 16).map (fun n => decodeAt .execute 0xCB (BitVec.ofNat 8 (0x20 + n)) 0x12) =
    [.slaB, .slaC, .slaD, .slaE,
     .slaH, .slaL, .slaIndHl, .slaA,
     .sraB, .sraC, .sraD, .sraE,
     .sraH, .sraL, .sraIndHl, .sraA] := by decide

theorem test_decode_cb_3 : (List.range 16).map (fun n => decodeAt .execute 0xCB (BitVec.ofNat 8 (0x30 + n)) 0x12) =
    [.swapB, .swapC, .swapD, .swapE,
     .swapH, .swapL, .swapIndHl, .swapA,
     .srlB, .srlC, .srlD, .srlE,
     .srlH, .srlL, .srlIndHl, .srlA] := by decide

theorem test_decode_cb_4 : (List.range 16).map (fun n => decodeAt .execute 0xCB (BitVec.ofNat 8 (0x40 + n)) 0x12) =
    [.bit0B, .bit0C, .bit0D, .bit0E,
     .bit0H, .bit0L, .bit0IndHl, .bit0A,
     .bit1B, .bit1C, .bit1D, .bit1E,
     .bit1H, .bit1L, .bit1IndHl, .bit1A] := by decide

theorem test_decode_cb_5 : (List.range 16).map (fun n => decodeAt .execute 0xCB (BitVec.ofNat 8 (0x50 + n)) 0x12) =
    [.bit2B, .bit2C, .bit2D, .bit2E,
     .bit2H, .bit2L, .bit2IndHl, .bit2A,
     .bit3B, .bit3C, .bit3D, .bit3E,
     .bit3H, .bit3L, .bit3IndHl, .bit3A] := by decide

theorem test_decode_cb_6 : (List.range 16).map (fun n => decodeAt .execute 0xCB (BitVec.ofNat 8 (0x60 + n)) 0x12) =
    [.bit4B, .bit4C, .bit4D, .bit4E,
     .bit4H, .bit4L, .bit4IndHl, .bit4A,
     .bit5B, .bit5C, .bit5D, .bit5E,
     .bit5H, .bit5L, .bit5IndHl, .bit5A] := by decide

theorem test_decode_cb_7 : (List.range 16).map (fun n => decodeAt .execute 0xCB (BitVec.ofNat 8 (0x70 + n)) 0x12) =
    [.bit6B, .bit6C, .bit6D, .bit6E,
     .bit6H, .bit6L, .bit6IndHl, .bit6A,
     .bit7B, .bit7C, .bit7D, .bit7E,
     .bit7H, .bit7L, .bit7IndHl, .bit7A] := by decide

theorem test_decode_cb_8 : (List.range 16).map (fun n => decodeAt .execute 0xCB (BitVec.ofNat 8 (0x80 + n)) 0x12) =
    [.res0B, .res0C, .res0D, .res0E,
     .res0H, .res0L, .res0IndHl, .res0A,
     .res1B, .res1C, .res1D, .res1E,
     .res1H, .res1L, .res1IndHl, .res1A] := by decide

theorem test_decode_cb_9 : (List.range 16).map (fun n => decodeAt .execute 0xCB (BitVec.ofNat 8 (0x90 + n)) 0x12) =
    [.res2B, .res2C, .res2D, .res2E,
     .res2H, .res2L, .res2IndHl, .res2A,
     .res3B, .res3C, .res3D, .res3E,
     .res3H, .res3L, .res3IndHl, .res3A] := by decide

theorem test_decode_cb_A : (List.range 16).map (fun n => decodeAt .execute 0xCB (BitVec.ofNat 8 (0xA0 + n)) 0x12) =
    [.res4B, .res4C, .res4D, .res4E,
     .res4H, .res4L, .res4IndHl, .res4A,
     .res5B, .res5C, .res5D, .res5E,
     .res5H, .res5L, .res5IndHl, .res5A] := by decide

theorem test_decode_cb_B : (List.range 16).map (fun n => decodeAt .execute 0xCB (BitVec.ofNat 8 (0xB0 + n)) 0x12) =
    [.res6B, .res6C, .res6D, .res6E,
     .res6H, .res6L, .res6IndHl, .res6A,
     .res7B, .res7C, .res7D, .res7E,
     .res7H, .res7L, .res7IndHl, .res7A] := by decide

theorem test_decode_cb_C : (List.range 16).map (fun n => decodeAt .execute 0xCB (BitVec.ofNat 8 (0xC0 + n)) 0x12) =
    [.set0B, .set0C, .set0D, .set0E,
     .set0H, .set0L, .set0IndHl, .set0A,
     .set1B, .set1C, .set1D, .set1E,
     .set1H, .set1L, .set1IndHl, .set1A] := by decide

theorem test_decode_cb_D : (List.range 16).map (fun n => decodeAt .execute 0xCB (BitVec.ofNat 8 (0xD0 + n)) 0x12) =
    [.set2B, .set2C, .set2D, .set2E,
     .set2H, .set2L, .set2IndHl, .set2A,
     .set3B, .set3C, .set3D, .set3E,
     .set3H, .set3L, .set3IndHl, .set3A] := by decide

theorem test_decode_cb_E : (List.range 16).map (fun n => decodeAt .execute 0xCB (BitVec.ofNat 8 (0xE0 + n)) 0x12) =
    [.set4B, .set4C, .set4D, .set4E,
     .set4H, .set4L, .set4IndHl, .set4A,
     .set5B, .set5C, .set5D, .set5E,
     .set5H, .set5L, .set5IndHl, .set5A] := by decide

theorem test_decode_cb_F : (List.range 16).map (fun n => decodeAt .execute 0xCB (BitVec.ofNat 8 (0xF0 + n)) 0x12) =
    [.set6B, .set6C, .set6D, .set6E,
     .set6H, .set6L, .set6IndHl, .set6A,
     .set7B, .set7C, .set7D, .set7E,
     .set7H, .set7L, .set7IndHl, .set7A] := by decide

/-! ### Table words, and what the checks of WellFormed refuse -/

theorem test_table_word_halt : decodeTableWord 8 0x76 = some .halt := by decide

theorem test_table_word_two_bytes : decodeTableWord 16 0x053E = some (.ldAD8 0x05) := by decide

theorem test_table_word_three_bytes : decodeTableWord 24 0x1234C3 = some (.jpA16 0x1234) := by decide

theorem test_table_word_operand_zero : decodeTableWord 8 0x3E = some (.ldAD8 0x00) := by decide

theorem test_table_word_prefix : decodeTableWord 8 0xCB = some (.prefixCb 0x00) := by decide

theorem test_table_word_cb : decodeTableWord 16 0xCB66 = some .bit4IndHl := by decide

theorem test_with_fetch_word : step (State.reset.withFetchWord 24 0x1234C3) =
    exec (.jpA16 0x1234) (State.reset.withFetchWord 24 0x1234C3) := rfl

theorem test_decode_truncated : decode .execute [0xC3, 0x34] = .error .truncated := by decide

theorem test_decode_nothing : decode .execute [] = .error .noBytes := by decide

/-- R105: STOP stands for a pair of bytes, 0x10 0x00. -/
theorem test_wellFormed_refuses_stop_operand : Instr.wellFormed (.stop 0x01) = false := by decide

theorem test_wellFormed_stop : Instr.wellFormed (.stop 0x00) = true := by decide

/-! ### One step: the vectors V1 to V9 -/

theorem test_add_b : (after { vec with a := 0x3A, b := 0xC6, fc := false } [0x80]).map (fun t => (t.a, t.f, t.pc)) =
    some (0x00, 0xB0, 0x0101) := by decide

theorem test_add_b_carry_only : (after { vec with a := 0x80, b := 0x80, fc := false } [0x80]).map (fun t => (t.a, t.f, t.pc)) =
    some (0x00, 0x90, 0x0101) := by decide

theorem test_adc_b_half_only : (after { vec with a := 0xE1, b := 0x0F, fc := true } [0x88]).map (fun t => (t.a, t.f, t.pc)) =
    some (0xF1, 0x20, 0x0101) := by decide

theorem test_adc_b : (after { vec with a := 0x7F, b := 0x80, fc := true } [0x88]).map (fun t => (t.a, t.f, t.pc)) =
    some (0x00, 0xB0, 0x0101) := by decide

theorem test_sub_b_carry_only : (after { vec with a := 0x3E, b := 0x40, fc := false } [0x90]).map (fun t => (t.a, t.f, t.pc)) =
    some (0xFE, 0x50, 0x0101) := by decide

theorem test_sub_b : (after { vec with a := 0x00, b := 0x01, fc := true } [0x90]).map (fun t => (t.a, t.f, t.pc)) =
    some (0xFF, 0x70, 0x0101) := by decide

theorem test_sbc_b : (after { vec with a := 0x00, b := 0xFF, fc := true } [0x98]).map (fun t => (t.a, t.f, t.pc)) =
    some (0x00, 0xF0, 0x0101) := by decide

theorem test_sbc_b_half_only : (after { vec with a := 0x10, b := 0x0F, fc := true } [0x98]).map (fun t => (t.a, t.f, t.pc)) =
    some (0x00, 0xE0, 0x0101) := by decide

theorem test_and_b : (after { vec with a := 0x5A, b := 0xA5, fc := false } [0xA0]).map (fun t => (t.a, t.f, t.pc)) =
    some (0x00, 0xA0, 0x0101) := by decide

theorem test_xor_b : (after { vec with a := 0xFF, b := 0x0F, fc := true } [0xA8]).map (fun t => (t.a, t.f, t.pc)) =
    some (0xF0, 0x00, 0x0101) := by decide

theorem test_or_b : (after { vec with a := 0x00, b := 0x00, fc := true } [0xB0]).map (fun t => (t.a, t.f, t.pc)) =
    some (0x00, 0x80, 0x0101) := by decide

theorem test_cp_b : (after { vec with a := 0x3C, b := 0x40, fc := false } [0xB8]).map (fun t => (t.a, t.f, t.pc)) =
    some (0x3C, 0x50, 0x0101) := by decide

theorem test_add_indHl : (after (poke [(0xC000, 0x34)] { vec with a := 0x12, h := 0xC0, l := 0x00, fc := false }) [0x86]).map (fun t => (t.a, t.f, t.pc)) =
    some (0x46, 0x00, 0x0101) := by decide

theorem test_cp_indHl : (after (poke [(0xC000, 0x12)] { vec with a := 0x12, h := 0xC0, l := 0x00, fc := false }) [0xBE]).map (fun t => (t.a, t.f, t.pc)) =
    some (0x12, 0xC0, 0x0101) := by decide

theorem test_adc_d8 : (after { vec with a := 0x00, fc := true } [0xCE, 0xFF]).map (fun t => (t.a, t.f, t.pc)) =
    some (0x00, 0xB0, 0x0102) := by decide

theorem test_sub_d8 : (after { vec with a := 0x00 } [0xD6, 0x01]).map (fun t => (t.a, t.f, t.pc)) =
    some (0xFF, 0x70, 0x0102) := by decide

theorem test_sbc_d8 : (after { vec with a := 0x00, fc := true } [0xDE, 0x00]).map (fun t => (t.a, t.f, t.pc)) =
    some (0xFF, 0x70, 0x0102) := by decide

theorem test_and_d8 : (after { vec with a := 0xFF } [0xE6, 0x00]).map (fun t => (t.a, t.f, t.pc)) =
    some (0x00, 0xA0, 0x0102) := by decide

theorem test_xor_d8 : (after { vec with a := 0x0F } [0xEE, 0xFF]).map (fun t => (t.a, t.f, t.pc)) =
    some (0xF0, 0x00, 0x0102) := by decide

theorem test_or_d8 : (after { vec with a := 0x01 } [0xF6, 0x80]).map (fun t => (t.a, t.f, t.pc)) =
    some (0x81, 0x00, 0x0102) := by decide

theorem test_cp_d8 : (after { vec with a := 0x90 } [0xFE, 0x90]).map (fun t => (t.a, t.f, t.pc)) =
    some (0x90, 0xC0, 0x0102) := by decide

theorem test_sbc_a_a : (after { vec with a := 0x55, fc := true } [0x9F]).map (fun t => (t.a, t.f, t.pc)) =
    some (0xFF, 0x70, 0x0101) := by decide

theorem test_inc_b_preserve : (after { vec with b := 0xFF, fc := false } [0x04]).map (fun t => (t.b, t.f)) =
    some (0x00, 0xA0) := by decide

theorem test_inc_b_derive : (after { vec with b := 0xFF, fc := false, params := derive } [0x04]).map (fun t => (t.b, t.f)) =
    some (0x00, 0xB0) := by decide

theorem test_dec_c_preserve : (after { vec with c := 0x00, fc := false } [0x0D]).map (fun t => (t.c, t.f)) =
    some (0xFF, 0x60) := by decide

theorem test_dec_c_derive : (after { vec with c := 0x00, fc := false, params := derive } [0x0D]).map (fun t => (t.c, t.f)) =
    some (0xFF, 0x70) := by decide

theorem test_inc_indHl : (after (poke [(0xC010, 0xFF)] { vec with h := 0xC0, l := 0x10, fc := true }) [0x34]).map (fun t => (t.read8 0xC010, t.f)) =
    some (0x00, 0xB0) := by decide

theorem test_dec_indHl : (after (poke [(0xC010, 0x00)] { vec with h := 0xC0, l := 0x10, fc := false }) [0x35]).map (fun t => (t.read8 0xC010, t.f)) =
    some (0xFF, 0x60) := by decide

theorem test_rlca : (after { vec with a := 0x85, fz := true, fn := false, fh := false, fc := false } [0x07]).map (fun t => (t.a, t.f)) =
    some (0x0B, 0x10) := by decide

theorem test_rrca : (after { vec with a := 0x01, fz := false, fn := false, fh := false, fc := false } [0x0F]).map (fun t => (t.a, t.f)) =
    some (0x80, 0x10) := by decide

theorem test_rla : (after { vec with a := 0x95, fz := false, fn := false, fh := false, fc := true } [0x17]).map (fun t => (t.a, t.f)) =
    some (0x2B, 0x10) := by decide

theorem test_rra : (after { vec with a := 0x8A, fz := false, fn := false, fh := false, fc := true } [0x1F]).map (fun t => (t.a, t.f)) =
    some (0xC5, 0x00) := by decide

theorem test_daa_add : (after { vec with a := 0x9A, fz := false, fn := false, fh := false, fc := false } [0x27]).map (fun t => (t.a, t.f)) =
    some (0x00, 0x90) := by decide

theorem test_daa_sub : (after { vec with a := 0x0C, fz := false, fn := true, fh := true, fc := false } [0x27]).map (fun t => (t.a, t.f)) =
    some (0x06, 0x40) := by decide

theorem test_cpl : (after { vec with a := 0x35, fz := false, fn := false, fh := false, fc := true } [0x2F]).map (fun t => (t.a, t.f)) =
    some (0xCA, 0x70) := by decide

theorem test_scf : (after { vec with a := 0x00, fz := true, fn := true, fh := true, fc := false } [0x37]).map (fun t => (t.a, t.f)) =
    some (0x00, 0x90) := by decide

theorem test_ccf : (after { vec with a := 0x00, fz := false, fn := true, fh := true, fc := true } [0x3F]).map (fun t => (t.a, t.f)) =
    some (0x00, 0x00) := by decide

theorem test_inc_bc : (after { vec with b := 0xFF, c := 0xFF, fz := true, fc := true } [0x03]).map (fun t => (t.bc, t.f)) =
    some (0x0000, 0x90) := by decide

theorem test_dec_de : (after { vec with d := 0x00, e := 0x00 } [0x1B]).map (fun t => (t.de, t.f)) =
    some (0xFFFF, 0x00) := by decide

theorem test_add_hl_bc : (after { vec with h := 0x0F, l := 0xFF, b := 0x00, c := 0x01, fz := true } [0x09]).map (fun t => (t.hl, t.f)) =
    some (0x1000, 0xA0) := by decide

theorem test_add_hl_hl : (after { vec with h := 0x8A, l := 0x23 } [0x29]).map (fun t => (t.hl, t.f)) =
    some (0x1446, 0x30) := by decide

theorem test_add_sp : (after { vec with sp := 0x00FF, fz := true, fn := true } [0xE8, 0x01]).map (fun t => (t.sp, t.f)) =
    some (0x0100, 0x30) := by decide

theorem test_add_sp_negative : (after { vec with sp := 0x0000 } [0xE8, 0xFF]).map (fun t => (t.sp, t.f)) =
    some (0xFFFF, 0x00) := by decide

theorem test_ld_hl_sp : (after { vec with sp := 0xFFF8 } [0xF8, 0x08]).map (fun t => (t.hl, t.sp, t.f)) =
    some (0x0000, 0xFFF8, 0x30) := by decide

theorem test_ld_hl_sp_negative : (after { vec with sp := 0x1000 } [0xF8, 0x80]).map (fun t => (t.hl, t.f)) =
    some (0x0F80, 0x00) := by decide

theorem test_jr_wraps_down : (after { vec with pc := 0x0000 } [0x18, 0xFD]).map (fun t => (t.pc, t.sp)) =
    some (0xFFFF, 0x0000) := by decide

theorem test_jr_wraps_up : (after { vec with pc := 0xFFF0 } [0x18, 0x7F]).map (fun t => (t.pc, t.sp)) =
    some (0x0071, 0x0000) := by decide

theorem test_jr_nz_not_taken : (after { vec with pc := 0x0200, fz := true } [0x20, 0x10]).map (fun t => (t.pc, t.sp)) =
    some (0x0202, 0x0000) := by decide

theorem test_jr_z : (after { vec with pc := 0x0200, fz := true } [0x28, 0xF0]).map (fun t => (t.pc, t.sp)) =
    some (0x01F2, 0x0000) := by decide

theorem test_jr_nc_not_taken : (after { vec with pc := 0x0200, fc := true } [0x30, 0x02]).map (fun t => (t.pc, t.sp)) =
    some (0x0202, 0x0000) := by decide

theorem test_jr_c : (after { vec with pc := 0x0200, fc := true } [0x38, 0x02]).map (fun t => (t.pc, t.sp)) =
    some (0x0204, 0x0000) := by decide

theorem test_jp : (after { vec with pc := 0x0100 } [0xC3, 0x50, 0x01]).map (fun t => (t.pc, t.sp)) =
    some (0x0150, 0x0000) := by decide

theorem test_jp_nz_not_taken : (after { vec with pc := 0x0100, fz := true } [0xC2, 0x00, 0x20]).map (fun t => (t.pc, t.sp)) =
    some (0x0103, 0x0000) := by decide

theorem test_jp_z : (after { vec with pc := 0x0100, fz := true } [0xCA, 0x00, 0x20]).map (fun t => (t.pc, t.sp)) =
    some (0x2000, 0x0000) := by decide

theorem test_jp_nc : (after { vec with pc := 0x0100, fc := false } [0xD2, 0x00, 0x20]).map (fun t => (t.pc, t.sp)) =
    some (0x2000, 0x0000) := by decide

theorem test_jp_c_not_taken : (after { vec with pc := 0x0100, fc := false } [0xDA, 0x00, 0x20]).map (fun t => (t.pc, t.sp)) =
    some (0x0103, 0x0000) := by decide

theorem test_jp_hl : (after { vec with pc := 0x0100, h := 0xC1, l := 0x23 } [0xE9]).map (fun t => (t.pc, t.sp)) =
    some (0xC123, 0x0000) := by decide

theorem test_call_wraps : (after { vec with pc := 0xFFFD, sp := 0xD000 } [0xCD, 0x00, 0x10]).map (fun t => (t.pc, t.sp, t.read8 0xCFFF, t.read8 0xCFFE)) =
    some (0x1000, 0xCFFE, 0x00, 0x00) := by decide

theorem test_call_nz_not_taken : (after { vec with pc := 0x0150, sp := 0xFFFE, fz := true } [0xC4, 0x34, 0x12]).map (fun t => (t.pc, t.sp)) =
    some (0x0153, 0xFFFE) := by decide

theorem test_call_c : (after { vec with pc := 0x0150, sp := 0xFFFE, fc := true } [0xDC, 0x34, 0x12]).map (fun t => (t.pc, t.sp, t.read8 0xFFFD, t.read8 0xFFFC)) =
    some (0x1234, 0xFFFC, 0x01, 0x53) := by decide

theorem test_ret_wraps : (after (poke [(0xFFFF, 0x34), (0x0000, 0x12)] { vec with pc := 0x1234, sp := 0xFFFF }) [0xC9]).map (fun t => (t.pc, t.sp)) =
    some (0x1234, 0x0001) := by decide

theorem test_ret_z_not_taken : (after { vec with pc := 0x1234, sp := 0xFFFC, fz := false } [0xC8]).map (fun t => (t.pc, t.sp)) =
    some (0x1235, 0xFFFC) := by decide

theorem test_ret_nc : (after (poke [(0xFFFC, 0x53), (0xFFFD, 0x01)] { vec with pc := 0x1234, sp := 0xFFFC, fc := false }) [0xD0]).map (fun t => (t.pc, t.sp)) =
    some (0x0153, 0xFFFE) := by decide

theorem test_rst_38 : (after { vec with pc := 0x0038, sp := 0xD000 } [0xFF]).map (fun t => (t.pc, t.sp, t.read8 0xCFFF, t.read8 0xCFFE)) =
    some (0x0038, 0xCFFE, 0x00, 0x39) := by decide

theorem test_reti : (after (poke [(0xFFFC, 0x53), (0xFFFD, 0x01)] { vec with pc := 0x1234, sp := 0xFFFC, ime := false }) [0xD9]).map (fun t => (t.pc, t.sp, t.ime)) =
    some (0x0153, 0xFFFE, true) := by decide

theorem test_push_de_wraps : (after { vec with d := 0xBE, e := 0xEF, sp := 0x0001 } [0xD5]).map (fun t => (t.sp, t.read8 0x0000, t.read8 0xFFFF)) =
    some (0xFFFF, 0xBE, 0xEF) := by decide

theorem test_push_af : (after { vec with a := 0xAB, fz := true, fn := false, fh := false, fc := true, sp := 0xFFFE } [0xF5]).map (fun t => (t.sp, t.read8 0xFFFD, t.read8 0xFFFC)) =
    some (0xFFFC, 0xAB, 0x90) := by decide

theorem test_pop_hl_wraps : (after (poke [(0xFFFF, 0xCD), (0x0000, 0xAB)] { vec with sp := 0xFFFF }) [0xE1]).map (fun t => (t.hl, t.sp)) =
    some (0xABCD, 0x0001) := by decide

theorem test_pop_af : (after (poke [(0xC000, 0x5F), (0xC001, 0x00)] { vec with sp := 0xC000 }) [0xF1]).map (fun t => (t.a, t.f, t.fz, t.fn, t.fh, t.fc)) =
    some (0x00, 0x50, false, true, false, true) := by decide

theorem test_ld_sp_hl : (after { vec with h := 0xDF, l := 0xF0 } [0xF9]).map (fun t => (t.sp)) =
    some (0xDFF0) := by decide

theorem test_ld_a16_sp_wraps : (after { vec with sp := 0xABCD } [0x08, 0xFF, 0xFF]).map (fun t => (t.sp, t.read8 0xFFFF, t.read8 0x0000)) =
    some (0xABCD, 0xCD, 0xAB) := by decide

theorem test_ld_b_c : (after { vec with c := 0x9C } [0x41]).map (fun t => (t.b, t.c)) =
    some (0x9C, 0x9C) := by decide

theorem test_ld_h_indHl : (after (poke [(0xC000, 0x5E)] { vec with h := 0xC0, l := 0x00 }) [0x66]).map (fun t => (t.h, t.l)) =
    some (0x5E, 0x00) := by decide

theorem test_ld_indHl_l : (after { vec with h := 0xC0, l := 0x12 } [0x75]).map (fun t => (t.hl, t.read8 0xC012)) =
    some (0xC012, 0x12) := by decide

theorem test_ld_indHl_d8 : (after { vec with h := 0xC0, l := 0x00 } [0x36, 0xA5]).map (fun t => (t.pc, t.read8 0xC000)) =
    some (0x0102, 0xA5) := by decide

theorem test_ld_bc_d16 : (after vec [0x01, 0x34, 0x12]).map (fun t => (t.bc, t.pc)) =
    some (0x1234, 0x0103) := by decide

theorem test_ld_sp_d16 : (after vec [0x31, 0xFE, 0xFF]).map (fun t => (t.sp)) =
    some (0xFFFE) := by decide

theorem test_ld_indBc_a : (after { vec with a := 0x11, b := 0xC1, c := 0x00 } [0x02]).map (fun t => (t.bc, t.read8 0xC100)) =
    some (0xC100, 0x11) := by decide

theorem test_ld_indDe_a : (after { vec with a := 0x22, d := 0xC2, e := 0x00 } [0x12]).map (fun t => (t.de, t.read8 0xC200)) =
    some (0xC200, 0x22) := by decide

theorem test_ld_indHlInc_a : (after { vec with a := 0x33, h := 0xFF, l := 0xFF } [0x22]).map (fun t => (t.hl, t.read8 0xFFFF)) =
    some (0x0000, 0x33) := by decide

theorem test_ld_indHlDec_a : (after { vec with a := 0x44, h := 0x00, l := 0x00 } [0x32]).map (fun t => (t.hl, t.read8 0x0000)) =
    some (0xFFFF, 0x44) := by decide

theorem test_ld_a_indBc : (after (poke [(0xC100, 0x99)] { vec with b := 0xC1, c := 0x00 }) [0x0A]).map (fun t => (t.a)) =
    some (0x99) := by decide

theorem test_ld_a_indDe : (after (poke [(0xC200, 0x98)] { vec with d := 0xC2, e := 0x00 }) [0x1A]).map (fun t => (t.a)) =
    some (0x98) := by decide

theorem test_ld_a_indHlInc : (after (poke [(0xC0FF, 0x97)] { vec with h := 0xC0, l := 0xFF }) [0x2A]).map (fun t => (t.a, t.hl)) =
    some (0x97, 0xC100) := by decide

theorem test_ld_a_indHlDec : (after (poke [(0xC100, 0x96)] { vec with h := 0xC1, l := 0x00 }) [0x3A]).map (fun t => (t.a, t.hl)) =
    some (0x96, 0xC0FF) := by decide

theorem test_ld_a16_a : (after { vec with a := 0x55 } [0xEA, 0x34, 0xC2]).map (fun t => (t.pc, t.read8 0xC234)) =
    some (0x0103, 0x55) := by decide

theorem test_ld_a_a16 : (after (poke [(0xC234, 0x66)] vec) [0xFA, 0x34, 0xC2]).map (fun t => (t.a)) =
    some (0x66) := by decide

theorem test_ldh_a8_a : (after { vec with a := 0x77 } [0xE0, 0x80]).map (fun t => (t.pc, t.read8 0xFF80)) =
    some (0x0102, 0x77) := by decide

theorem test_ldh_a_a8 : (after (poke [(0xFFFF, 0x1F)] vec) [0xF0, 0xFF]).map (fun t => (t.a)) =
    some (0x1F) := by decide

theorem test_ld_indC_a : (after { vec with a := 0x88, c := 0x0F } [0xE2]).map (fun t => (t.pc, t.read8 0xFF0F)) =
    some (0x0101, 0x88) := by decide

theorem test_ld_a_indC : (after (poke [(0xFF44, 0x90)] { vec with c := 0x44 }) [0xF2]).map (fun t => (t.a)) =
    some (0x90) := by decide

theorem test_rlc_indHl : (after (poke [(0xC000, 0x80)] { vec with h := 0xC0, l := 0x00, fc := false }) [0xCB, 0x06]).map (fun t => (t.read8 0xC000, t.pc, t.f)) =
    some (0x01, 0x0102, 0x10) := by decide

theorem test_rrc_c : (after { vec with c := 0x01, fc := false } [0xCB, 0x09]).map (fun t => (t.c, t.pc, t.f)) =
    some (0x80, 0x0102, 0x10) := by decide

theorem test_rl_d : (after { vec with d := 0x80, fc := true } [0xCB, 0x12]).map (fun t => (t.d, t.pc, t.f)) =
    some (0x01, 0x0102, 0x10) := by decide

theorem test_rr_e : (after { vec with e := 0x01, fc := true } [0xCB, 0x1B]).map (fun t => (t.e, t.pc, t.f)) =
    some (0x80, 0x0102, 0x10) := by decide

theorem test_sla_h : (after { vec with h := 0xC0, fc := false } [0xCB, 0x24]).map (fun t => (t.h, t.pc, t.f)) =
    some (0x80, 0x0102, 0x10) := by decide

theorem test_sra_l : (after { vec with l := 0x8A, fc := false } [0xCB, 0x2D]).map (fun t => (t.l, t.pc, t.f)) =
    some (0xC5, 0x0102, 0x00) := by decide

theorem test_swap_a : (after { vec with a := 0xF0, fc := true } [0xCB, 0x37]).map (fun t => (t.a, t.pc, t.f)) =
    some (0x0F, 0x0102, 0x00) := by decide

theorem test_srl_indHl : (after (poke [(0xC000, 0xFF)] { vec with h := 0xC0, l := 0x00, fc := false }) [0xCB, 0x3E]).map (fun t => (t.read8 0xC000, t.pc, t.f)) =
    some (0x7F, 0x0102, 0x10) := by decide

theorem test_bit7_h : (after { vec with h := 0x7F, fc := true } [0xCB, 0x7C]).map (fun t => (t.h, t.pc, t.f)) =
    some (0x7F, 0x0102, 0xB0) := by decide

theorem test_bit0_indHl : (after (poke [(0xC000, 0xFE)] { vec with h := 0xC0, l := 0x00, fc := false }) [0xCB, 0x46]).map (fun t => (t.read8 0xC000, t.pc, t.f)) =
    some (0xFE, 0x0102, 0xA0) := by decide

theorem test_res0_a : (after { vec with a := 0xFF, fc := true } [0xCB, 0x87]).map (fun t => (t.a, t.pc, t.f)) =
    some (0xFE, 0x0102, 0x10) := by decide

theorem test_res7_indHl : (after (poke [(0xC000, 0x80)] { vec with h := 0xC0, l := 0x00, fc := false }) [0xCB, 0xBE]).map (fun t => (t.read8 0xC000, t.pc, t.f)) =
    some (0x00, 0x0102, 0x00) := by decide

theorem test_set7_b : (after { vec with b := 0x00, fc := false } [0xCB, 0xF8]).map (fun t => (t.b, t.pc, t.f)) =
    some (0x80, 0x0102, 0x00) := by decide

theorem test_set3_indHl : (after (poke [(0xC000, 0x00)] { vec with h := 0xC0, l := 0x00, fc := false }) [0xCB, 0xDE]).map (fun t => (t.read8 0xC000, t.pc, t.f)) =
    some (0x08, 0x0102, 0x00) := by decide

/-! ### V10, V11: system instructions, memory -/

theorem test_nop : after vec [0x00] = some { vec with pc := 0x0101 } := by decide

theorem test_halt : after vec [0x76] =
    some { vec with pc := 0x0101, running := false, mem := [(0x0100, 0x76)] } := by decide

theorem test_stop : (after vec [0x10, 0x00]).map (fun t => (t.pc, t.running, t.refused)) =
    some (0x0102, false, none) := by decide

theorem test_stop_operand : after vec [0x10, 0x01] =
    some { vec with refused := some .stopNonZeroOperand, mem := [(0x0100, 0x10), (0x0101, 0x01)] } := by
  decide

theorem test_di : (after { vec with ime := true, imePending := true } [0xF3]).map
    (fun t => (t.ime, t.imePending, t.pc)) = some (false, false, 0x0101) := by decide

theorem test_ei : (after vec [0xFB]).map (fun t => (t.ime, t.imePending, t.pc)) =
    some (false, true, 0x0101) := by decide

theorem test_nop_after_ei : (after { vec with imePending := true } [0x00]).map
    (fun t => (t.ime, t.imePending)) = some (true, false) := by decide

theorem test_unknown_skip : (after vec [0xFD]).map (fun t => (t.pc, t.events, t.running)) =
    some (0x0101, [Event.mk 0x0100 0xFD], true) := by decide

theorem test_unknown_stuck : (after { vec with params := stuck } [0xD3]).map
    (fun t => (t.pc, t.events, t.running)) = some (0x0100, [], true) := by decide

theorem test_cb_refuse : (after { vec with a := 0x12, params := refusing } [0xCB, 0x37]).map
    (fun t => (t.refused, t.pc, t.a)) = some (some .cbPrefixRefused, 0x0100, 0x12) := by decide

theorem test_cb_execute : (after { vec with a := 0x12 } [0xCB, 0x37]).map
    (fun t => (t.a, t.pc, t.f)) = some (0x21, 0x0102, 0x00) := by decide

theorem test_no_step_when_halted : step { vec with running := false } = .fault .halted := rfl

theorem test_no_step_when_refused :
    step { vec with refused := some .cbPrefixRefused } = .refused .cbPrefixRefused := rfl

theorem test_fetch_wraps : (after { vec with pc := 0xFFFE } [0x01, 0x34, 0x12]).map
    (fun t => (t.bc, t.pc)) = some (0x1234, 0x0001) := by decide

theorem test_memory_drops_zero : (poke [(0xC000, 0x05), (0x0000, 0x01), (0xC000, 0x00)] vec).mem =
    [(0x0000, 0x01)] := by decide

theorem test_f_register : State.f { vec with fz := true, fc := true } = 0x90 := by decide

theorem test_boot_too_large : ∀ image : List Byte, image.length = 65537 →
    loadRom (some image) = .error .romLoadFailure := by
  intro image h
  simp [loadRom, h, busSize]

/-! ### Witnesses: the hypotheses of each statement are met -/

/-- A state that meets the invariant and is not the reset state. -/
def busy : State := { poke [(0x0000, 0xD3), (0xC000, 0x05)] vec with events := [Event.mk 0x0000 0xD3] }

def setFlagsOn : State := { vec with fz := true, fc := true }

theorem witness_DecodeOfEncode_execute : ∀ op2, Instr.ldAD8 0xFF ≠ .prefixCb op2 := by
  intro op2 h
  cases h

theorem witness_DecodeOfEncode_refuse : ∀ op2, Instr.prefixCb 0xFF ≠ decodeCb op2 := by
  apply forall_byte
  decide +kernel

theorem witness_EncodeOfDecode :
    decode .execute [0xCB, 0xFF, 0x00] = .ok (.set7A, [0x00]) := by decide

theorem witness_DecodeIsTotal : immLen 0xCD ≤ ([0x34, 0x12] : List Byte).length := by decide

theorem witness_StepRunsDecodedInstruction :
    let s := poke [(0xFFFF, 0xC3), (0x0000, 0x34), (0x0001, 0x12)] { vec with pc := 0xFFFF }
    s.running = true ∧ s.refused = none ∧
      decode s.params.cbPrefix [s.read8 s.pc, s.read8 (s.pc + 1), s.read8 (s.pc + 2)] =
        .ok (.jpA16 0x1234, []) := by decide

theorem witness_NoStepAnswers_halted : State.running { vec with running := false } = false := by decide

theorem witness_NoStepAnswers_marks :
    State.running { vec with refused := some .cbPrefixRefused } = true ∧
    State.refused { vec with refused := some .cbPrefixRefused } = some .cbPrefixRefused ∧
    State.refused { vec with refused := some .stopNonZeroOperand } = some .stopNonZeroOperand := by decide

theorem witness_PcAdvancesByLength : ∃ t, exec (.ldBcD16 0x1234) vec = .next t ∧
    encode (.ldBcD16 0x1234) = 0x01 :: [0x34, 0x12] ∧ (0x01 : Byte) ∉ controlTransfer ∧
    vec.refused = none ∧ t.refused = none ∧ vec.params.unknownOpcode = .skip :=
  ⟨_, rfl, by decide, by decide, rfl, rfl, rfl⟩

theorem witness_BootLoadsRomAtZero_fits : (List.replicate 65536 (0x76 : Byte)).length ≤ 65536 := by
  rw [List.length_replicate]

theorem witness_BootLoadsRomAtZero_too_large : 65536 < (List.replicate 65537 (0x76 : Byte)).length := by
  rw [List.length_replicate]
  omega

theorem witness_ResetAndBootMeetInvariant : ∃ s,
    boot Params.specDefault ResetRegs.dmg (some [0x76, 0x00, 0x10]) = .ok s := ⟨_, rfl⟩

theorem witness_StepKeepsInvariant : CoreInv busy ∧ ∃ t, step busy = .next t :=
  ⟨⟨by decide, by decide, by decide, by decide, by decide⟩, _, rfl⟩

theorem witness_RunKeepsInvariant : CoreInv busy := witness_StepKeepsInvariant.1

theorem witness_DriverEndsWhereItSays_halted :
    (drive [false, false] (poke [(0x0100, 0x76)] vec)).2 = .halted := by decide

theorem witness_DriverEndsWhereItSays_refused :
    (drive [false, false] (poke [(0x0100, 0x10), (0x0101, 0xFF)] vec)).2 =
      .refused .stopNonZeroOperand := by decide

theorem witness_DriverEndsWhereItSays_stopped : (drive [false, true] vec).2 = .stopped := by decide

theorem witness_DriverEndsWhereItSays_running : (drive [false] vec).2 = .running := by decide

theorem witness_CanonicalMemoryIsExtensional :
    let m : Memory := [(0x0000, 0x01), (0xFFFF, 0xFF)]
    Memory.wf m = true ∧ ∀ a < 65536, Memory.read m a = Memory.read m a := ⟨by decide, fun _ _ => rfl⟩

/-- For every statement whose one hypothesis is the canonical memory: Word16IsLittleEndian,
CallThenReturn, PushPair, PushThenPopRestores, and the first clauses of CallsAndRestarts. -/
theorem witness_canonical_memory : Memory.wf busy.mem = true := by decide

theorem witness_OnlyStoredBytesChange : ∃ t, exec (.ldIndA16Sp 0xFFFF) vec = .next t ∧
    (0x0001 : Word) ∉ storeAddresses (.ldIndA16Sp 0xFFFF) vec := ⟨_, rfl, by decide⟩

theorem witness_StoreIsSeenByNextFetch :
    let s : State := { vec with pc := 0xFFFE, h := 0xFF, l := 0xFF }
    Memory.wf s.mem = true ∧ s.running = true ∧ s.refused = none ∧ s.hl = s.pc + 1 := by decide

theorem witness_DaaGivesDecimalArithmetic : 99 < 100 ∧ 0 < 100 ∧ State.a { vec with a := 0x99 } = bcd 99 := by
  decide

/-- RelativeJumps, AbsoluteJumps, CallsAndRestarts, Returns: each condition holds somewhere ... -/
theorem witness_conditions_hold :
    Holds .nz vec ∧ Holds .nc vec ∧ Holds .z setFlagsOn ∧ Holds .c setFlagsOn := ⟨rfl, rfl, rfl, rfl⟩

/-- ... and fails somewhere. -/
theorem witness_conditions_fail :
    ¬ Holds .z vec ∧ ¬ Holds .c vec ∧ ¬ Holds .nz setFlagsOn ∧ ¬ Holds .nc setFlagsOn := by
  refine ⟨?_, ?_, ?_, ?_⟩ <;> (intro h; cases h)

theorem witness_CallsAndRestarts_taken : Memory.wf busy.mem = true ∧ Holds .nz busy := ⟨by decide, rfl⟩

theorem witness_PrefixCb_refuse : State.params { vec with params := refusing } = refusing ∧
    refusing.cbPrefix = .refuse := by decide

theorem witness_PrefixCb_execute : vec.params.cbPrefix = .execute := by decide

theorem witness_NopHaltStop_operand : (0x01 : Byte) ≠ 0x00 ∧ (0xFF : Byte) ≠ 0x00 := by decide

theorem witness_DiAndEi : vec.imePending = false ∧ State.imePending { vec with imePending := true } = true := by
  decide

theorem witness_EiTakesEffect : ∃ t u, exec .ei vec = .next t ∧ vec.imePending = false ∧
    exec .halt t = .next u ∧ Instr.halt ≠ .di ∧ t.refused = none ∧ u.refused = none :=
  ⟨_, _, rfl, rfl, rfl, by decide, rfl, rfl⟩

theorem witness_UnknownOpcodes : vec.params.unknownOpcode = .skip ∧ stuck.unknownOpcode = .stuck := by decide

theorem witness_StuckOpcodeLoopsForever :
    let s := poke [(0x0100, 0xFD)] { vec with params := stuck }
    s.running = true ∧ s.refused = none ∧ s.imePending = false ∧ s.params.unknownOpcode = .stuck ∧
      s.read8 s.pc ∈ unknownBytes := by decide

theorem witness_OnlyHaltAndStopEndTheRun_halt : ∃ t, exec .halt vec = .next t ∧
    vec.running = true ∧ t.running = false := ⟨_, rfl, rfl, rfl⟩

theorem witness_OnlyHaltAndStopEndTheRun_stop : ∃ t, exec (.stop 0x00) vec = .next t ∧
    vec.running = true ∧ t.running = false := ⟨_, rfl, rfl, rfl⟩

theorem witness_OnlyHaltAndStopEndTheRun_never_again : ∃ t, exec .nop { vec with running := false } = .next t ∧
    State.running { vec with running := false } = false := ⟨_, rfl, rfl⟩

theorem witness_OnlyDiEiRetiWriteIme_di : ∃ t, exec .di { vec with ime := true } = .next t ∧
    t.ime ≠ State.ime { vec with ime := true } := ⟨_, rfl, by decide⟩

theorem witness_OnlyDiEiRetiWriteIme_reti : ∃ t, exec .reti vec = .next t ∧ t.ime ≠ vec.ime :=
  ⟨_, rfl, by decide⟩

theorem witness_OnlyDiEiRetiWriteIme_ei : ∃ t, exec .nop { vec with imePending := true } = .next t ∧
    t.ime ≠ State.ime { vec with imePending := true } := ⟨_, rfl, by decide⟩

theorem witness_ImeAndLogAreNeverRead : ∃ t, exec .reti { busy with imePending := true } = .next t := ⟨_, rfl⟩

theorem witness_OnlyUnknownOpcodesAreLogged : ∃ t, exec .unknownFD busy = .next t := ⟨_, rfl⟩

theorem witness_RefusalWritesOnlyTheMark_cb : ∃ t, exec (.prefixCb 0x37) { vec with params := refusing } = .next t ∧
    t.refused ≠ State.refused { vec with params := refusing } := ⟨_, rfl, by decide⟩

theorem witness_RefusalWritesOnlyTheMark_stop : ∃ t, exec (.stop 0xFF) vec = .next t ∧
    t.refused ≠ vec.refused := ⟨_, rfl, by decide⟩

end Sys2Proof.Tests
end

section
/-! PROOFS. The family 10_state: the invariant of the core, the canonical memory, the views of the registers,
and what an instruction can do to `running`, IME, the log and the mark (spec/10_state.md). -/

namespace Sys2Proof.Machine

/-! ### The inversion of a step -/

/-- Where no step exists, the answer is a fault or a refusal, never a next state (R110). -/
theorem noStep_ne_next {s t : State} : noStep s ≠ some (.next t) := by
  unfold noStep
  split
  · split <;> simp
  · simp

/-- A next state is the effect of the fetched instruction in a running state with no mark (R100, R110). -/
theorem step_eq_next {s t : State} (h : step s = .next t) :
    s.running = true ∧ s.refused = none ∧ exec (fetch s) s = .next t := by
  unfold step at h
  split at h
  next stopped hstopped => exact absurd (h ▸ hstopped) noStep_ne_next
  next hnone =>
    obtain ⟨hrunning, hrefused⟩ := (noStep_eq_none s).1 hnone
    exact ⟨hrunning, hrefused, h⟩

/-! ### What `Effect` says of one field

The refusal and the ordinary effect together: a refusal leaves every field but the mark as it was. -/

namespace Effect

variable {i : Instr} {s t : State}

theorem params (e : Effect i s t) : t.params = s.params := by
  obtain ord | ⟨ht, -⟩ := e
  · exact ord.params
  · rw [ht]

theorem running (e : Effect i s t) :
    t.running = s.running ∨ t.running = false ∧ (i = .halt ∨ i = .stop 0x00) := by
  obtain ord | ⟨ht, -⟩ := e
  · exact ord.running
  · exact .inl (by rw [ht])

theorem events (e : Effect i s t) :
    t.events = s.events ∨ ∃ u, i = Instr.unknown u ∧ s.params.unknownOpcode = .skip ∧
      t.events = s.events ++ [Event.mk s.pc u.byte] := by
  obtain ord | ⟨ht, -⟩ := e
  · exact ord.events
  · exact .inl (by rw [ht])

theorem memWf (e : Effect i s t) (h : Memory.wf s.mem = true) : Memory.wf t.mem = true := by
  obtain ord | ⟨ht, -⟩ := e
  · exact ord.memWf h
  · rw [ht]
    exact h

/-- From a state with no mark: still none, or `running` is untouched and the mark is one the parameters allow. -/
theorem refused (e : Effect i s t) (hs : s.refused = none) :
    t.refused = none ∨ t.running = s.running ∧
      (t.refused = some .cbPrefixRefused → s.params.cbPrefix = .refuse) := by
  obtain ord | ⟨ht, ⟨op2, -, hcb, -⟩ | ⟨b, -, -, hmark⟩⟩ := e
  · exact .inl (ord.refused.trans hs)
  · exact .inr ⟨by rw [ht], fun _ => hcb⟩
  · exact .inr ⟨by rw [ht], by simp [hmark]⟩

/-- An instruction keeps the two clauses of the invariant about the log (R33, R88, R108). -/
theorem logged (e : Effect i s t) (h : ∀ ev ∈ s.events, ev.op ∈ unknownBytes) :
    ∀ ev ∈ t.events, ev.op ∈ unknownBytes := by
  obtain hkept | ⟨u, -, -, hgrown⟩ := e.events
  · exact hkept ▸ h
  · rw [hgrown]
    intro ev hev
    obtain hold | hnew := List.mem_append.1 hev
    · exact h ev hold
    · rw [List.mem_singleton.1 hnew]
      exact u.byte_mem

theorem stuckLog (e : Effect i s t) (h : s.params.unknownOpcode = .stuck → s.events = []) :
    t.params.unknownOpcode = .stuck → t.events = [] := by
  rw [e.params]
  intro hstuck
  obtain hkept | ⟨u, -, hskip, -⟩ := e.events
  · exact hkept.trans (h hstuck)
  · rw [hstuck] at hskip
    cases hskip

/-- An instruction that runs where a step exists keeps the invariant. -/
theorem coreInv (e : Effect i s t) (hrunning : s.running = true) (hrefused : s.refused = none)
    (inv : CoreInv s) : CoreInv t where
  memWf := e.memWf inv.memWf
  notBoth := by
    intro hhalted
    obtain hnone | ⟨hsame, -⟩ := e.refused hrefused
    · exact hnone
    · rw [hsame, hrunning] at hhalted
      cases hhalted
  cbMark := by
    intro hmark
    obtain hnone | ⟨-, hcb⟩ := e.refused hrefused
    · rw [hnone] at hmark
      cases hmark
    · exact e.params ▸ hcb hmark
  logged := e.logged inv.logged
  stuckLog := e.stuckLog inv.stuckLog

end Effect

/-- Settles O12: the step's inversion gives the fetched instruction's effect, which keeps each clause. -/
theorem stepKeepsInvariant : Obligations.StepKeepsInvariant := by
  intro s t inv h
  obtain ⟨hrunning, hrefused, hexec⟩ := step_eq_next h
  exact (effect_of_exec hexec).coreInv hrunning hrefused inv

/-! ### The invariant at the start of a run -/

/-- Construction meets the invariant over any canonical memory: nothing is logged and no mark is set (R38). -/
theorem ofReset_coreInv (p : Params) (r : ResetRegs) {m : Memory} (h : Memory.wf m = true) :
    CoreInv { State.ofReset p r with mem := m } where
  memWf := h
  notBoth := fun _ => rfl
  cbMark := fun hmark => nomatch hmark
  logged := fun _ hmem => nomatch hmem
  stuckLog := fun _ => rfl

/-- A load that succeeds leaves memory in canonical form (R335). -/
theorem loadRom_wf {source : Option (List Byte)} {m : Memory} (h : loadRom source = .ok m) :
    Memory.wf m = true := by
  unfold loadRom at h
  split at h
  next => cases h
  next image =>
    split at h
    next => cases h
    next hfits =>
      cases h
      exact Memory.load_wf rfl (by omega)

/-- A booted core is a constructed one with the loaded memory (R336). -/
theorem boot_eq_ok {p : Params} {r : ResetRegs} {source : Option (List Byte)} {s : State}
    (h : boot p r source = .ok s) :
    ∃ m, loadRom source = .ok m ∧ s = { State.ofReset p r with mem := m } := by
  unfold boot at h
  split at h
  next => cases h
  next m hm =>
    cases h
    exact ⟨m, hm, rfl⟩

/-- Settles O11: both are constructed cores, one over the empty memory, one over the loaded image. -/
theorem resetAndBootMeetInvariant : Obligations.ResetAndBootMeetInvariant := by
  refine ⟨ofReset_coreInv Params.model ResetRegs.zero (m := []) rfl, ?_⟩
  intro p r source s h
  obtain ⟨m, hm, rfl⟩ := boot_eq_ok h
  exact ofReset_coreInv p r (loadRom_wf hm)

/-! ### Canonical memories are determined by their bytes -/

namespace Memory

theorem read_cons_same (k : Nat) (v : Byte) (m : Memory) : read ((k, v) :: m) k = v := if_pos rfl

theorem read_cons_other {k a : Nat} (v : Byte) (m : Memory) (h : k ≠ a) :
    read ((k, v) :: m) a = read m a := if_neg h

/-- If two canonical lists read alike, the first listed address of the one is not below the other's. -/
theorem head_not_below {lo k : Nat} {v : Byte} {m m' : Memory} (h : wfFrom lo ((k, v) :: m) = true)
    (h' : wfFrom (k + 1) m' = true) (hread : ∀ a < busSize, read ((k, v) :: m) a = read m' a) : False := by
  obtain ⟨-, hk, hv, -⟩ := wfFrom_cons.1 h
  apply hv
  calc v = read ((k, v) :: m) k := (read_cons_same k v m).symm
    _ = read m' k := hread k hk
    _ = unlisted := read_below h' (Nat.lt_succ_self k)

/-- The heads are the same entry, since neither is below the other; the tails read alike, since both read as
unlisted up to the head's address. -/
theorem eq_of_read_eq {m m' : Memory} {lo lo' : Nat} (h : wfFrom lo m = true) (h' : wfFrom lo' m' = true)
    (hread : ∀ a < busSize, read m a = read m' a) : m = m' := by
  induction m generalizing lo lo' m' with
  | nil =>
    cases m' with
    | nil => rfl
    | cons e' rest' => exact (head_not_below h' rfl fun a ha => (hread a ha).symm).elim
  | cons e rest ih =>
    obtain ⟨k, v⟩ := e
    cases m' with
    | nil => exact (head_not_below h rfl hread).elim
    | cons e' rest' =>
      obtain ⟨k', v'⟩ := e'
      obtain ⟨-, hk, hv, hrest⟩ := wfFrom_cons.1 h
      obtain ⟨-, hk', hv', hrest'⟩ := wfFrom_cons.1 h'
      obtain hlt | rfl | hgt := Nat.lt_trichotomy k k'
      · exact (head_not_below h (wfFrom_cons.2 ⟨hlt, hk', hv', hrest'⟩) hread).elim
      · have hvv : v = v' := by simpa only [read_cons_same] using hread k hk
        have htails : ∀ a < busSize, read rest a = read rest' a := by
          intro a ha
          by_cases hle : a ≤ k
          · rw [read_below hrest (by omega), read_below hrest' (by omega)]
          · simpa only [read_cons_other _ _ (show k ≠ a by omega)] using hread a ha
        rw [hvv, ih hrest hrest' htails]
      · exact (head_not_below h' (wfFrom_cons.2 ⟨hgt, hk, hv, hrest⟩) fun a ha => (hread a ha).symm).elim

end Memory

/-- Settles O15, by induction on the two lists. -/
theorem canonicalMemoryIsExtensional : Obligations.CanonicalMemoryIsExtensional :=
  fun _ _ h h' hread => Memory.eq_of_read_eq h h' hread

/-! ### F and the register pairs -/

/-- R25 on all sixteen flag states. -/
theorem packF_toNat : ∀ z n h c : Bool,
    (packF z n h c).toNat = z.toNat * 128 + n.toNat * 64 + h.toNat * 32 + c.toNat * 16 := by decide

/-- Settles O19: F is the packing of the state's flags. -/
theorem fIsThePackedFlags : Obligations.FIsThePackedFlags :=
  fun s => packF_toNat s.fz s.fn s.fh s.fc

theorem flagBit_getLsbD (f : Bool) (k : Nat) : (flagBit f).getLsbD k = (decide (k = 0) && f) := by
  cases f <;> simp [flagBit]

theorem loByte_getLsbD (v : Word) {k : Nat} (hk : k < 8) : (loByte v).getLsbD k = v.getLsbD k := by
  simp [loByte, hk]

/-- A byte's upper four bits taken as flags and packed again: its low nibble is dropped (R22, R25). -/
theorem packF_bits (v : Byte) :
    packF (v.getLsbD 7) (v.getLsbD 6) (v.getLsbD 5) (v.getLsbD 4) = v &&& 0xF0 := by
  apply BitVec.eq_of_getLsbD_eq
  intro k hk
  simp only [packF, BitVec.getLsbD_or, BitVec.getLsbD_shiftLeft, BitVec.getLsbD_and, flagBit_getLsbD]
  interval_cases k <;> simp

theorem cat_and (x y m n : Byte) : cat (x &&& m) (y &&& n) = cat x y &&& cat m n :=
  BitVec.and_append.symm

/-- R22: AF written reads back without bits 3 to 0. -/
theorem setAf_af (s : State) (v : Word) : (s.setAf v).af = v &&& 0xFFF0 := by
  have hf : (s.setAf v).f = loByte v &&& 0xF0 := by
    simp only [← packF_bits, State.f, State.setAf_fz, State.setAf_fn, State.setAf_fh, State.setAf_fc,
      loByte_getLsbD v (show 7 < 8 by decide), loByte_getLsbD v (show 6 < 8 by decide),
      loByte_getLsbD v (show 5 < 8 by decide), loByte_getLsbD v (show 4 < 8 by decide)]
  calc (s.setAf v).af = cat (hiByte v &&& 0xFF) (loByte v &&& 0xF0) := by
        rw [State.af, State.setAf_a, hf, show hiByte v &&& 0xFF = hiByte v from BitVec.and_allOnes]
    _ = cat (hiByte v) (loByte v) &&& cat 0xFF 0xF0 := cat_and _ _ _ _
    _ = v &&& 0xFFF0 := by rw [cat_hiByte_loByte]; rfl

/-- Settles O20: BC, DE and HL by the bytes of a word put together again, AF by `setAf_af`. -/
theorem pairViewsReadBack : Obligations.PairViewsReadBack :=
  fun s v =>
    ⟨⟨cat_hiByte_loByte v, State.setBc_b s v, State.setBc_c s v⟩,
      ⟨cat_hiByte_loByte v, State.setDe_d s v, State.setDe_e s v⟩,
      ⟨cat_hiByte_loByte v, State.setHl_h s v, State.setHl_l s v⟩,
      ⟨setAf_af s v, State.setAf_a s v⟩⟩

/-! ### What an instruction can do to `running`, IME, the log and the mark -/

/-- Settles O56: `running`'s part of an instruction's effect. -/
theorem onlyHaltAndStopEndTheRun : Obligations.OnlyHaltAndStopEndTheRun := by
  refine ⟨rfl, fun i s t h => ?_⟩
  obtain hsame | ⟨hhalted, hi⟩ := (effect_of_exec h).running
  · rw [hsame]
    exact ⟨fun hon hoff => absurd (hon.symm.trans hoff) (by decide), id⟩
  · exact ⟨fun _ _ => hi, fun _ => hhalted⟩

/-- An enable that changed IME was pending, and sets it (R102). -/
theorem pending_of_ime_ne {s t : State} (h : t.ime = (s.ime || s.imePending)) (hne : t.ime ≠ s.ime) :
    s.imePending = true ∧ t.ime = true := by
  cases hp : s.imePending with
  | false => exact absurd (by simpa [hp] using h) hne
  | true => exact ⟨rfl, by simpa [hp] using h⟩

/-- Settles O57: EI itself sets IME only by an enable pending before it. -/
theorem onlyDiEiRetiWriteIme : Obligations.OnlyDiEiRetiWriteIme := by
  intro i s t h hne
  obtain ord | ⟨ht, -⟩ := effect_of_exec h
  · obtain ⟨hi, hoff, -⟩ | ⟨-, hei, -⟩ | ⟨hi, hon, -⟩ | ⟨hend, -⟩ := ord.ime
    · exact .inl ⟨hi, hoff⟩
    · exact .inr (.inr (pending_of_ime_ne hei hne))
    · exact .inr (.inl ⟨hi, hon⟩)
    · exact .inr (.inr (pending_of_ime_ne hend hne))
  · exact absurd (by rw [ht]) hne

/-- Settles O59: the log's part of an instruction's effect. -/
theorem onlyUnknownOpcodesAreLogged : Obligations.OnlyUnknownOpcodesAreLogged :=
  ⟨rfl, fun _ _ _ h => (effect_of_exec h).events⟩

/-- Settles O60: the ordinary effect leaves the mark, so a change of it is a refusal. -/
theorem refusalWritesOnlyTheMark : Obligations.RefusalWritesOnlyTheMark := by
  intro i s t h hne
  obtain ord | hrefusal := effect_of_exec h
  · exact absurd ord.refused hne
  · exact hrefusal

/-! ### No instruction reads IME, its pending bit or the log

A state with those three fields replaced reads alike everywhere else, and every operation of the handlers commutes
with the replacement. -/

/-- `s` with IME, its pending bit and the log replaced. -/
def State.withImeLog (s : State) (ime pending : Bool) (log : List Event) : State :=
  { s with ime := ime, imePending := pending, events := log }

section
variable (s : State) (ime pending : Bool) (log : List Event)

@[simp] theorem State.withImeLog_self : s.withImeLog s.ime s.imePending s.events = s := rfl

@[simp] theorem State.withImeLog_withImeLog (ime' pending' : Bool) (log' : List Event) :
    (s.withImeLog ime' pending' log').withImeLog ime pending log = s.withImeLog ime pending log := rfl

theorem State.reg_withImeLog (r : Reg8) : (s.withImeLog ime pending log).reg r = s.reg r := by
  cases r <;> rfl

theorem State.opnd_withImeLog (o : Opnd8) : (s.withImeLog ime pending log).opnd o = s.opnd o := by
  cases o with
  | reg r => exact State.reg_withImeLog s ime pending log r
  | indHl => rfl

theorem State.aluSrc_withImeLog (x : AluSrc) : (s.withImeLog ime pending log).aluSrc x = s.aluSrc x := by
  cases x with
  | reg r => exact State.reg_withImeLog s ime pending log r
  | indHl => rfl
  | imm n => rfl

theorem State.pair_withImeLog (p : Pair) : (s.withImeLog ime pending log).pair p = s.pair p := by
  cases p <;> rfl

theorem State.stackPair_withImeLog (p : StackPair) :
    (s.withImeLog ime pending log).stackPair p = s.stackPair p := by
  cases p <;> rfl

theorem State.setReg_withImeLog (r : Reg8) (v : Byte) :
    (s.withImeLog ime pending log).setReg r v = (s.setReg r v).withImeLog ime pending log := by
  cases r <;> rfl

theorem State.setOpnd_withImeLog (o : Opnd8) (v : Byte) :
    (s.withImeLog ime pending log).setOpnd o v = (s.setOpnd o v).withImeLog ime pending log := by
  cases o with
  | reg r => exact State.setReg_withImeLog s ime pending log r v
  | indHl => rfl

theorem State.setPair_withImeLog (p : Pair) (v : Word) :
    (s.withImeLog ime pending log).setPair p v = (s.setPair p v).withImeLog ime pending log := by
  cases p <;> rfl

theorem State.setStackPair_withImeLog (p : StackPair) (v : Word) :
    (s.withImeLog ime pending log).setStackPair p v = (s.setStackPair p v).withImeLog ime pending log := by
  cases p <;> rfl

end

theorem State.cond_withImeLog (cc : Cond) (s : State) (ime pending : Bool) (log : List Event) :
    (s.withImeLog ime pending log).cond cc = s.cond cc := by
  cases cc <;> rfl

/-- A handler whose answer, up to the three fields, does not depend on them. -/
def HandlerIgnoresImeLog (g : State → State) : Prop :=
  ∀ s ime pending log,
    (g (s.withImeLog ime pending log)).withImeLog (g s).ime (g s).imePending (g s).events = g s

/-- A meaning that answers, whatever IME, its pending bit and the log were, the same state up to the three. -/
def IgnoresImeLog (m : State → Out) : Prop :=
  ∀ s t ime pending log, m s = .next t →
    ∃ u, m (s.withImeLog ime pending log) = .next u ∧ u.withImeLog t.ime t.imePending t.events = t

namespace IgnoresImeLog

theorem of_eq {m m' : State → Out} (h : ∀ s, m s = m' s) (hm : IgnoresImeLog m') : IgnoresImeLog m :=
  funext h ▸ hm

/-- `finish()` reads the pending bit for IME's sake alone (R102). -/
theorem endStep {pc : State → Word} {g : State → State}
    (hpc : ∀ s ime pending log, pc (s.withImeLog ime pending log) = pc s) (hg : HandlerIgnoresImeLog g) :
    IgnoresImeLog fun s => Machine.endStep s (pc s) (g s) := by
  intro s t ime pending log h
  cases h
  refine ⟨_, rfl, ?_⟩
  rw [hpc]
  exact congrArg (fun u => State.settleIme s.imePending { u with pc := pc s }) (hg s ime pending log)

theorem advance {len : Nat} {g : State → State} (hg : HandlerIgnoresImeLog g) :
    IgnoresImeLog fun s => Machine.advance len s (g s) :=
  endStep (fun _ _ _ _ => rfl) hg

theorem refuse (reason : RefuseReason) : IgnoresImeLog (Machine.refuse reason) := by
  intro s t ime pending log h
  cases h
  exact ⟨_, rfl, rfl⟩

/-- A choice by a condition that does not depend on the three. -/
theorem ite {c : State → Bool} {m m' : State → Out}
    (hc : ∀ s ime pending log, c (s.withImeLog ime pending log) = c s)
    (hm : IgnoresImeLog m) (hm' : IgnoresImeLog m') : IgnoresImeLog fun s => if c s then m s else m' s := by
  intro s t ime pending log h
  beta_reduce at h ⊢
  rw [hc]
  cases hcs : c s <;> rw [hcs] at h
  · exact hm' s t ime pending log h
  · exact hm s t ime pending log h

end IgnoresImeLog

/-! The operations the instructions share -/

theorem unknownOpcode_eq_ite (op : Byte) (s : State) :
    unknownOpcode op s =
      if decide (s.params.unknownOpcode = .skip) then advance 1 s (s.report op) else endStep s s.pc s := by
  unfold unknownOpcode
  cases s.params.unknownOpcode <;> rfl

theorem unknownOpcode_ignoresImeLog (op : Byte) : IgnoresImeLog (unknownOpcode op) :=
  .of_eq (unknownOpcode_eq_ite op)
    (.ite (fun _ _ _ _ => rfl) (.advance fun _ _ _ _ => rfl) (.endStep (fun _ _ _ _ => rfl) fun _ _ _ _ => rfl))

theorem execStop_ignoresImeLog (n : Byte) : IgnoresImeLog (execStop n) := by
  by_cases hn : n = 0x00
  · exact .of_eq (fun s => if_pos hn) (.advance fun _ _ _ _ => rfl)
  · exact .of_eq (fun s => if_neg hn) (.refuse _)

theorem alu8_ignoresImeLog (op : AluOp) (src : AluSrc) : IgnoresImeLog (alu8 op src) := by
  refine .advance fun s ime pending log => ?_
  rw [State.aluSrc_withImeLog]
  cases op <;> rfl

theorem inc8_ignoresImeLog (o : Opnd8) : IgnoresImeLog (inc8 o) :=
  .advance fun s ime pending log => by rw [State.opnd_withImeLog, State.setOpnd_withImeLog]; rfl

theorem dec8_ignoresImeLog (o : Opnd8) : IgnoresImeLog (dec8 o) :=
  .advance fun s ime pending log => by rw [State.opnd_withImeLog, State.setOpnd_withImeLog]; rfl

theorem shift8_ignoresImeLog (op : ShiftOp) (o : Opnd8) : IgnoresImeLog (shift8 op o) :=
  .advance fun s ime pending log => by rw [State.opnd_withImeLog, State.setOpnd_withImeLog]; rfl

theorem bit8_ignoresImeLog (b : Idx8) (o : Opnd8) : IgnoresImeLog (bit8 b o) :=
  .advance fun s ime pending log => by rw [State.opnd_withImeLog]; rfl

theorem res8_ignoresImeLog (b : Idx8) (o : Opnd8) : IgnoresImeLog (res8 b o) :=
  .advance fun s ime pending log => by rw [State.opnd_withImeLog, State.setOpnd_withImeLog]; rfl

theorem set8_ignoresImeLog (b : Idx8) (o : Opnd8) : IgnoresImeLog (set8 b o) :=
  .advance fun s ime pending log => by rw [State.opnd_withImeLog, State.setOpnd_withImeLog]; rfl

theorem cbTable_ignoresImeLog (op2 : Byte) : IgnoresImeLog (cbTable op2) := by
  unfold cbTable
  cases xField op2
  · exact shift8_ignoresImeLog _ _
  · exact bit8_ignoresImeLog _ _
  · exact res8_ignoresImeLog _ _
  · exact set8_ignoresImeLog _ _

theorem cbPrefix_eq_ite (op2 : Byte) (s : State) :
    cbPrefix op2 s =
      if decide (s.params.cbPrefix = .refuse) then refuse .cbPrefixRefused s else cbTable op2 s := by
  unfold cbPrefix
  cases s.params.cbPrefix <;> rfl

theorem cbPrefix_ignoresImeLog (op2 : Byte) : IgnoresImeLog (cbPrefix op2) :=
  .of_eq (cbPrefix_eq_ite op2) (.ite (fun _ _ _ _ => rfl) (.refuse _) (cbTable_ignoresImeLog op2))

/-- No instruction reads IME, its pending bit or the log (R31, R33). -/
theorem exec_ignoresImeLog (i : Instr) : IgnoresImeLog (exec i) := by
  refine Instr.forall_of_form (P := fun i => IgnoresImeLog (exec i)) (fun f => ?_) i
  cases f <;> simp only [Form.instr]
  case stop n => exact execStop_ignoresImeLog n
  case unknown u => exact .of_eq (exec_unknown u) (unknownOpcode_ignoresImeLog _)
  case prefixCb op2 => exact cbPrefix_ignoresImeLog op2
  case alu op src => exact .of_eq (exec_alu op src) (alu8_ignoresImeLog op src)
  case inc8 o => exact .of_eq (exec_inc8 o) (inc8_ignoresImeLog o)
  case dec8 o => exact .of_eq (exec_dec8 o) (dec8_ignoresImeLog o)
  case shift op o => exact .of_eq (exec_shift op o) (shift8_ignoresImeLog op o)
  case bit b o => exact .of_eq (exec_bit b o) (bit8_ignoresImeLog b o)
  case res b o => exact .of_eq (exec_res b o) (res8_ignoresImeLog b o)
  case set b o => exact .of_eq (exec_set b o) (set8_ignoresImeLog b o)
  case rotA op => exact .of_eq (exec_rotA op) (.advance fun _ _ _ _ => rfl)
  case incPair p =>
    exact .of_eq (exec_incPair p) <| .advance fun s ime pending log => by
      rw [State.pair_withImeLog, State.setPair_withImeLog]; rfl
  case decPair p =>
    exact .of_eq (exec_decPair p) <| .advance fun s ime pending log => by
      rw [State.pair_withImeLog, State.setPair_withImeLog]; rfl
  case addHl p =>
    exact .of_eq (exec_addHl p) <| .advance fun s ime pending log => by
      rw [State.pair_withImeLog]; rfl
  case jrCc cc e =>
    exact .of_eq (exec_jrCc cc e) <| .ite (State.cond_withImeLog cc)
      (.endStep (fun _ _ _ _ => rfl) fun _ _ _ _ => rfl) (.advance fun _ _ _ _ => rfl)
  case jpCc cc nn =>
    exact .of_eq (exec_jpCc cc nn) <| .ite (State.cond_withImeLog cc)
      (.endStep (fun _ _ _ _ => rfl) fun _ _ _ _ => rfl) (.advance fun _ _ _ _ => rfl)
  case callCc cc nn =>
    exact .of_eq (exec_callCc cc nn) <| .ite (State.cond_withImeLog cc)
      (.endStep (fun _ _ _ _ => rfl) fun _ _ _ _ => rfl) (.advance fun _ _ _ _ => rfl)
  case retCc cc =>
    exact .of_eq (exec_retCc cc) <| .ite (State.cond_withImeLog cc)
      (.endStep (fun _ _ _ _ => rfl) fun _ _ _ _ => rfl) (.advance fun _ _ _ _ => rfl)
  case rst t => exact .of_eq (exec_rst t) (.endStep (fun _ _ _ _ => rfl) fun _ _ _ _ => rfl)
  case push p =>
    exact .of_eq (exec_push p) <| .advance fun s ime pending log => by
      rw [State.stackPair_withImeLog]; rfl
  case pop p =>
    exact .of_eq (exec_pop p) <| .advance fun s ime pending log => by
      cases p <;> rfl
  case ldRR dst src =>
    exact .of_eq (exec_ldRR dst src) <| .advance fun s ime pending log => by
      rw [State.reg_withImeLog, State.setReg_withImeLog]; rfl
  case ldRHl dst =>
    exact .of_eq (exec_ldRHl dst) <| .advance fun s ime pending log => by
      rw [State.setReg_withImeLog]; rfl
  case ldHlR src =>
    exact .of_eq (exec_ldHlR src) <| .advance fun s ime pending log => by
      rw [State.reg_withImeLog]; rfl
  case ldRD8 dst n =>
    exact .of_eq (exec_ldRD8 dst n) <| .advance fun s ime pending log => by
      rw [State.setReg_withImeLog]; rfl
  case ldPairD16 p nn =>
    exact .of_eq (exec_ldPairD16 p nn) <| .advance fun s ime pending log => by
      rw [State.setPair_withImeLog]; rfl
  -- The forms with no operand code to split on: their updates agree field by field.
  all_goals exact .endStep (fun _ _ _ _ => rfl) fun _ _ _ _ => rfl

/-- Settles O58: by the form of the instruction, through the operation it shares with others. -/
theorem imeAndLogAreNeverRead : Obligations.ImeAndLogAreNeverRead :=
  fun i s t => exec_ignoresImeLog i s t

end Sys2Proof.Machine
end

section
/-! PROOFS. The family 20_memory: words stored in two bytes, the bytes an instruction leaves as they were, and
a store into the next instruction (spec/20_memory.md). -/

namespace Sys2Proof.Machine

/-! ### Bytes and words stored -/

/-- The next address is another one, after 0xFFFF too (R51). -/
theorem add_one_ne_self (a : Word) : a + 1 ≠ a := by bv_omega

/-- So is the one after it, the last that a fetch from `a` reads (R100). -/
theorem add_two_ne_self (a : Word) : a + 2 ≠ a := by bv_omega

theorem State.write16_read8_lo {s : State} (addr v : Word) (h : Memory.wf s.mem = true) :
    (s.write16 addr v).read8 addr = loByte v :=
  (State.read8_write8_other _ (add_one_ne_self addr).symm).trans (State.read8_write8_same addr _ h)

theorem State.write16_read8_hi {s : State} (addr v : Word) (h : Memory.wf s.mem = true) :
    (s.write16 addr v).read8 (addr + 1) = hiByte v :=
  State.read8_write8_same (addr + 1) _ (State.write8_wf addr _ h)

theorem State.write16_read8_other {s : State} {addr a : Word} (v : Word) (hlo : a ≠ addr)
    (hhi : a ≠ addr + 1) : (s.write16 addr v).read8 a = s.read8 a :=
  (State.read8_write8_other _ hhi).trans (State.read8_write8_other _ hlo)

theorem State.write16_read16 {s : State} (addr v : Word) (h : Memory.wf s.mem = true) :
    (s.write16 addr v).read16 addr = v := by
  rw [State.read16, State.write16_read8_hi addr v h, State.write16_read8_lo addr v h, cat_hiByte_loByte]

/-- Settles O16: the high byte is stored last, at an address that is not the low byte's. -/
theorem word16IsLittleEndian : Obligations.Word16IsLittleEndian :=
  fun _ addr v h =>
    ⟨State.write16_read8_lo addr v h, State.write16_read8_hi addr v h, State.write16_read16 addr v h,
      fun _ hlo hhi => State.write16_read8_other v hlo hhi⟩

/-! ### The bytes an instruction leaves as they were -/

/-- A state in which every byte outside `addrs` reads as in `s`. -/
def SameOutside (addrs : List Word) (s u : State) : Prop := ∀ a, a ∉ addrs → u.read8 a = s.read8 a

namespace SameOutside

variable {addrs : List Word} {s u : State}

/-- Memory untouched: nothing has to be said of `addrs`. -/
theorem of_mem_eq (h : u.mem = s.mem) : SameOutside addrs s u := fun a _ => State.read8_congr h a

/-- The bytes depend on memory alone: what is done to the other fields after the store does not matter. -/
theorem congr {u' : State} (h : SameOutside addrs s u) (hmem : u'.mem = u.mem) : SameOutside addrs s u' :=
  fun a ha => (State.read8_congr hmem a).trans (h a ha)

theorem write8 {addr : Word} (v : Byte) : SameOutside [addr] s (s.write8 addr v) :=
  fun _ ha => State.read8_write8_other v (mt List.mem_singleton.2 ha)

theorem write16 {addr : Word} (v : Word) : SameOutside [addr, addr + 1] s (s.write16 addr v) := by
  intro a ha
  obtain ⟨hlo, hhi⟩ : a ≠ addr ∧ a ≠ addr + 1 := by simpa using ha
  exact State.write16_read8_other v hlo hhi

theorem push16 (v : Word) : SameOutside (pushAddresses s) s (s.push16 v) :=
  fun _ ha => State.push16_read8_other v ha

/-- An r8 operand written: `addrs` has to hold HL only where the operand is the byte at HL (R75). -/
theorem setOpnd {o : Opnd8} (v : Byte) (h : o = .indHl → s.hl ∈ addrs) :
    SameOutside addrs s (s.setOpnd o v) :=
  fun a ha => setOpnd_read8 s o v a fun ho heq => ha (heq ▸ h ho)

end SameOutside

/-- A meaning that answers only states in which every byte outside `addrs` reads as in `s`. -/
def StoresWithin (addrs : List Word) (s : State) (m : Out) : Prop := ∀ t, m = .next t → SameOutside addrs s t

section
variable {addrs : List Word} {s u : State}

/-- The end of a step stores nothing: it writes PC, IME and the pending bit (R102). -/
theorem endStep_storesWithin {s0 : State} (pc : Word) (h : SameOutside addrs s u) :
    StoresWithin addrs s (endStep s0 pc u) := by
  rintro t ⟨⟩
  exact h.congr rfl

theorem advance_storesWithin {s0 : State} (len : Nat) (h : SameOutside addrs s u) :
    StoresWithin addrs s (advance len s0 u) := endStep_storesWithin _ h

/-- A refusal stores nothing (R34). -/
theorem refuse_storesWithin (reason : RefuseReason) : StoresWithin addrs s (refuse reason s) := by
  rintro t ⟨⟩
  exact .of_mem_eq rfl

theorem inc8_storesWithin {o : Opnd8} (h : o = .indHl → s.hl ∈ addrs) : StoresWithin addrs s (inc8 o s) :=
  advance_storesWithin 1 ((SameOutside.setOpnd _ h).congr rfl)

theorem dec8_storesWithin {o : Opnd8} (h : o = .indHl → s.hl ∈ addrs) : StoresWithin addrs s (dec8 o s) :=
  advance_storesWithin 1 ((SameOutside.setOpnd _ h).congr rfl)

theorem shift8_storesWithin (op : ShiftOp) {o : Opnd8} (h : o = .indHl → s.hl ∈ addrs) :
    StoresWithin addrs s (shift8 op o s) :=
  advance_storesWithin 2 ((SameOutside.setOpnd _ h).congr rfl)

theorem bit8_storesWithin (b : Idx8) (o : Opnd8) : StoresWithin addrs s (bit8 b o s) :=
  advance_storesWithin 2 (.of_mem_eq rfl)

theorem res8_storesWithin (b : Idx8) {o : Opnd8} (h : o = .indHl → s.hl ∈ addrs) :
    StoresWithin addrs s (res8 b o s) :=
  advance_storesWithin 2 (.setOpnd _ h)

theorem set8_storesWithin (b : Idx8) {o : Opnd8} (h : o = .indHl → s.hl ∈ addrs) :
    StoresWithin addrs s (set8 b o s) :=
  advance_storesWithin 2 (.setOpnd _ h)

end

/-- Under `execute` PREFIX_CB stores at HL for every (HL) row of the CB map but the BIT rows (R109, R280). -/
theorem hl_mem_storeAddresses_prefixCb {op2 : Byte} {s : State} (hcb : s.params.cbPrefix = .execute)
    (hx : xField op2 ≠ .i1) (ho : opnd8 (zField op2) = .indHl) :
    s.hl ∈ storeAddresses (.prefixCb op2) s := by
  rw [storeAddresses_prefixCb, hcb, ho]
  cases h : xField op2 with
  | i1 => exact absurd h hx
  | i0 => exact List.mem_singleton_self _
  | i2 => exact List.mem_singleton_self _
  | i3 => exact List.mem_singleton_self _

theorem cbPrefix_storesWithin (op2 : Byte) (s : State) :
    StoresWithin (storeAddresses (.prefixCb op2) s) s (cbPrefix op2 s) := by
  unfold cbPrefix
  split
  next => exact refuse_storesWithin _
  next hcb =>
    unfold cbTable
    split
    next hx => exact shift8_storesWithin _ (hl_mem_storeAddresses_prefixCb hcb (by simp [hx]))
    next => exact bit8_storesWithin _ _
    next hx => exact res8_storesWithin _ (hl_mem_storeAddresses_prefixCb hcb (by simp [hx]))
    next hx => exact set8_storesWithin _ (hl_mem_storeAddresses_prefixCb hcb (by simp [hx]))

/-- A call stores the return address where it is taken, and nothing where it is not (R206, R207). -/
theorem callTo_storesWithin (taken : Bool) (nn : Word) (s : State) :
    StoresWithin (if taken then pushAddresses s else []) s (callTo taken nn s) := by
  cases taken with
  | true => exact endStep_storesWithin nn (.push16 _)
  | false => exact advance_storesWithin 3 (.of_mem_eq rfl)

theorem unknownOpcode_storesWithin {addrs : List Word} (op : Byte) (s : State) :
    StoresWithin addrs s (unknownOpcode op s) := by
  unfold unknownOpcode
  split
  next => exact advance_storesWithin 1 (.of_mem_eq rfl)
  next => exact endStep_storesWithin _ (.of_mem_eq rfl)

theorem execStop_storesWithin {addrs : List Word} (n : Byte) (s : State) :
    StoresWithin addrs s (execStop n s) := by
  unfold execStop
  split
  next => exact advance_storesWithin 2 (.of_mem_eq rfl)
  next => exact refuse_storesWithin _

theorem alu8_storesWithin {addrs : List Word} (op : AluOp) (src : AluSrc) (s : State) :
    StoresWithin addrs s (alu8 op src s) := by
  refine advance_storesWithin _ (.of_mem_eq ?_)
  cases op <;> rfl

/-- An instruction stores within the addresses listed for it: by its form, first the forms that can store. -/
theorem exec_storesWithin (i : Instr) (s : State) : StoresWithin (storeAddresses i s) s (exec i s) := by
  refine Instr.forall_of_form (P := fun i => StoresWithin (storeAddresses i s) s (exec i s)) (fun f => ?_) i
  cases f <;> simp only [Form.instr]
  case prefixCb op2 => exact cbPrefix_storesWithin op2 s
  case inc8 o =>
    rw [exec_inc8]
    exact inc8_storesWithin fun ho => by simp [ho, storeAddresses_inc8]
  case dec8 o =>
    rw [exec_dec8]
    exact dec8_storesWithin fun ho => by simp [ho, storeAddresses_dec8]
  case shift op o =>
    rw [exec_shift]
    exact shift8_storesWithin op fun ho => by simp [ho, storeAddresses_shift]
  case res b o =>
    rw [exec_res]
    exact res8_storesWithin b fun ho => by simp [ho, storeAddresses_res]
  case set b o =>
    rw [exec_set]
    exact set8_storesWithin b fun ho => by simp [ho, storeAddresses_set]
  case call nn => exact callTo_storesWithin true nn s
  case callCc cc nn =>
    rw [exec_callCc, storeAddresses_callCc]
    exact callTo_storesWithin _ nn s
  case rst t =>
    rw [exec_rst, storeAddresses_rst]
    exact endStep_storesWithin _ (.push16 _)
  case push p =>
    rw [exec_push, storeAddresses_push]
    exact advance_storesWithin 1 (.push16 _)
  case ldA16Sp nn => exact advance_storesWithin 3 (.write16 _)
  case ldHlR src =>
    rw [exec_ldHlR, storeAddresses_ldHlR]
    exact advance_storesWithin 1 (.write8 _)
  case ldHlD8 n => exact advance_storesWithin 2 (.write8 _)
  case storeBc => exact advance_storesWithin 1 (.write8 _)
  case storeDe => exact advance_storesWithin 1 (.write8 _)
  case storeC => exact advance_storesWithin 1 (.write8 _)
  case storeHlInc => exact advance_storesWithin 1 ((SameOutside.write8 _).congr rfl)
  case storeHlDec => exact advance_storesWithin 1 ((SameOutside.write8 _).congr rfl)
  case storeA16 nn => exact advance_storesWithin 3 (.write8 _)
  case storeHigh n => exact advance_storesWithin 2 (.write8 _)
  -- Forms that store nothing, each by the lemma of its operation or of its operand code.
  case stop n => exact execStop_storesWithin n s
  case unknown u =>
    rw [exec_unknown]
    exact unknownOpcode_storesWithin _ s
  case alu op src =>
    rw [exec_alu]
    exact alu8_storesWithin op src s
  case bit b o =>
    rw [exec_bit]
    exact bit8_storesWithin b o
  case rotA op =>
    rw [exec_rotA]
    exact advance_storesWithin 1 (.of_mem_eq rfl)
  case incPair p =>
    rw [exec_incPair]
    exact advance_storesWithin 1 (.of_mem_eq (State.setPair_mem s p _))
  case decPair p =>
    rw [exec_decPair]
    exact advance_storesWithin 1 (.of_mem_eq (State.setPair_mem s p _))
  case addHl p =>
    rw [exec_addHl]
    exact advance_storesWithin 1 (.of_mem_eq rfl)
  case jrCc cc e =>
    rw [exec_jrCc, jumpRelative]
    split <;> exact endStep_storesWithin _ (.of_mem_eq rfl)
  case jpCc cc nn =>
    rw [exec_jpCc, jumpTo]
    split <;> exact endStep_storesWithin _ (.of_mem_eq rfl)
  case retCc cc =>
    rw [exec_retCc, returnIf]
    split <;> exact endStep_storesWithin _ (.of_mem_eq rfl)
  case pop p =>
    rw [exec_pop]
    exact advance_storesWithin 1 (.of_mem_eq (State.setStackPair_mem s.popped p _))
  case ldRR dst src =>
    rw [exec_ldRR]
    exact advance_storesWithin 1 (.of_mem_eq (State.setReg_mem s dst _))
  case ldRHl dst =>
    rw [exec_ldRHl]
    exact advance_storesWithin 1 (.of_mem_eq (State.setReg_mem s dst _))
  case ldRD8 dst n =>
    rw [exec_ldRD8]
    exact advance_storesWithin 2 (.of_mem_eq (State.setReg_mem s dst n))
  case ldPairD16 p nn =>
    rw [exec_ldPairD16]
    exact advance_storesWithin 3 (.of_mem_eq (State.setPair_mem s p nn))
  -- The other forms leave memory as it is by their definition.
  all_goals exact endStep_storesWithin _ (.of_mem_eq rfl)

/-- Settles O17: every answer of an instruction keeps the bytes outside the addresses listed for it. -/
theorem onlyStoredBytesChange : Obligations.OnlyStoredBytesChange := fun i s => exec_storesWithin i s

/-! ### A store into the next instruction -/

theorem exec_ldHlR_ended (src : Reg8) (s : State) :
    exec (Instr.ldHlR src) s = .next ((s.write8 s.hl (s.reg src)).ended (s.pc + 1)) := by
  rw [exec_ldHlR]
  exact advance_ended 1 rfl

/-- The fetch reads a byte just stored at PC, and the two bytes after it as they were (R64, R100). -/
theorem fetch_write8_at_pc {s : State} {pc : Word} (v : Byte) (h : Memory.wf s.mem = true) :
    fetch ((s.write8 pc v).ended pc) =
      decodeAt s.params.cbPrefix v (s.read8 (pc + 1)) (s.read8 (pc + 2)) :=
  congr (congrArg₂ (decodeAt s.params.cbPrefix) (State.read8_write8_same pc v h)
    (State.read8_write8_other v (add_one_ne_self pc))) (State.read8_write8_other v (add_two_ne_self pc))

/-- Settles O18: the step fetches at the address the store wrote, which is HL and the next PC. -/
theorem storeIsSeenByNextFetch : Obligations.StoreIsSeenByNextFetch := by
  intro s hwf hrunning hrefused hhl
  refine ⟨_, exec_ldHlR_ended .a s, ?_⟩
  rw [hhl, step_eq_exec, fetch_write8_at_pc _ hwf, BitVec.add_assoc, BitVec.add_assoc]
  · rfl
  · exact hrunning
  · exact hrefused

end Sys2Proof.Machine
end

section
/-! PROOFS. The family 30_encoding: decoding and encoding undo each other, decoding is total, and an
instruction that transfers no control moves PC past its bytes (spec/30_encoding.md). -/

namespace Sys2Proof

open Machine

/-! ### What the decoder can do -/

theorem immLen_le_two (op : Byte) : immLen op ≤ 2 := by
  obtain h | h | h := immLen_cases op <;> omega

/-- An opcode with its immediates decodes, and the bytes after them are left (R70, R86). -/
theorem decode_append {op : Byte} {imms : List Byte} (h : imms.length = immLen op) (cb : CbPrefix)
    (rest : List Byte) :
    decode cb (op :: imms ++ rest) = .ok (decodeAt cb op (imms.getD 0 0) (imms.getD 1 0), rest) := by
  have hle := immLen_le_two op
  match imms, h with
  | [], h => simp [decode, ← h]
  | [b1], h => simp [decode, ← h]
  | [b1, b2], h => simp [decode, ← h]
  | _ :: _ :: _ :: _, h => simp only [List.length_cons] at h; omega

/-- An opcode without all of its immediates does not decode (R70). -/
theorem decode_truncated {op : Byte} {tail : List Byte} (h : tail.length < immLen op) (cb : CbPrefix) :
    decode cb (op :: tail) = .error .truncated := by
  obtain hn | hn | hn := immLen_cases op <;> rw [hn] at h
  · omega
  · match tail, h with
    | [], _ => simp [decode, hn]
  · match tail, h with
    | [], _ => simp [decode, hn]
    | [_], _ => simp [decode, hn]

/-- The inversion of a decoding: an opcode, the immediates R86 gives it, and the rest. -/
theorem decode_eq_ok_iff {cb : CbPrefix} {bytes rest : List Byte} {i : Instr} :
    decode cb bytes = .ok (i, rest) ↔
      ∃ op imms, bytes = op :: imms ++ rest ∧ imms.length = immLen op ∧
        decodeAt cb op (imms.getD 0 0) (imms.getD 1 0) = i := by
  constructor
  · intro h
    cases bytes with
    | nil => cases h
    | cons op tail =>
      by_cases hlen : immLen op ≤ tail.length
      · have htake : (tail.take (immLen op)).length = immLen op := List.length_take_of_le hlen
        rw [← List.take_append_drop (immLen op) tail, ← List.cons_append, decode_append htake] at h
        cases h
        exact ⟨op, _, by rw [List.cons_append, List.take_append_drop], htake, rfl⟩
      · rw [decode_truncated (by omega)] at h
        cases h
  · rintro ⟨op, imms, rfl, himms, rfl⟩
    exact decode_append himms cb rest

/-- Settles O4: the immediates are the first bytes of `rest`. -/
theorem decodeIsTotal : Obligations.DecodeIsTotal := by
  intro cb op rest hlen
  refine ⟨_, decode_eq_ok_iff.2 ⟨op, rest.take (immLen op), ?_, List.length_take_of_le hlen, rfl⟩⟩
  rw [List.cons_append, List.take_append_drop]

/-! ### The CB map -/

/-- The CB map reads back the whole second byte (R90, R280). -/
theorem encode_decodeCb (op2 : Byte) : encode (decodeCb op2) = [0xCB, op2] := by
  revert op2
  apply forall_byte
  decide +kernel

theorem decodeCb_shift (op : ShiftOp) (o : Opnd8) :
    decodeCb (8 * op.code + o.code) = .shift op o := by
  cases op <;> (rcases o with r | _ <;> [cases r; skip]) <;> rfl

theorem decodeCb_bit (b : Idx8) (o : Opnd8) : decodeCb (0x40 + 8 * b.code + o.code) = .bit b o := by
  cases b <;> (rcases o with r | _ <;> [cases r; skip]) <;> rfl

theorem decodeCb_res (b : Idx8) (o : Opnd8) : decodeCb (0x80 + 8 * b.code + o.code) = .res b o := by
  cases b <;> (rcases o with r | _ <;> [cases r; skip]) <;> rfl

theorem decodeCb_set (b : Idx8) (o : Opnd8) : decodeCb (0xC0 + 8 * b.code + o.code) = .set b o := by
  cases b <;> (rcases o with r | _ <;> [cases r; skip]) <;> rfl

/-- The two rows 0xCB can run as have the same bytes (R89, R93). -/
theorem encode_resolveCb (cb : CbPrefix) (i : Instr) : encode (resolveCb cb i) = encode i := by
  unfold resolveCb
  split
  next op2 =>
    cases cb with
    | refuse => rfl
    | execute => exact encode_decodeCb op2
  next => rfl

theorem resolveCb_refuse (i : Instr) : resolveCb .refuse i = i := by
  unfold resolveCb
  split <;> rfl

theorem resolveCb_of_ne {i : Instr} (h : ∀ op2, i ≠ .prefixCb op2) (cb : CbPrefix) : resolveCb cb i = i := by
  unfold resolveCb
  split
  next op2 => exact absurd rfl (h op2)
  next => rfl

/-! ### Encoding what was decoded -/

/-- The number a 2-bit field holds, as `Idx8.val` of a 3-bit field. -/
def Idx4.val : Idx4 → Nat
  | .i0 => 0 | .i1 => 1 | .i2 => 2 | .i3 => 3

/-- The byte with the fields x, y and z (R71). -/
def byteOfFields (x : Idx4) (y z : Idx8) : Byte := BitVec.ofNat 8 (64 * x.val + 8 * y.val + z.val)

theorem byteOfFields_fields (op : Byte) : byteOfFields (xField op) (yField op) (zField op) = op := by
  revert op
  apply forall_byte
  decide +kernel

/-- The first-byte map loses no bit: the row of an opcode encodes to the opcode and the immediates it has
(R85, R86). By the fields of the opcode, in the order in which the decoder looks at them. -/
theorem encode_decodeFirst_word (op : Byte) (nn : Word) :
    encode (decodeFirst op (loByte nn) (hiByte nn)) = op :: [loByte nn, hiByte nn].take (immLen op) := by
  have hop := byteOfFields_fields op
  rw [immLen_fields]
  unfold decodeFirst decodeX0 decodeX1 decodeX2 decodeX3
  rw [cat_hiByte_loByte]
  generalize xField op = x at hop ⊢
  generalize yField op = y at hop ⊢
  generalize zField op = z at hop ⊢
  subst hop
  cases x
  · cases z <;> cases y <;> rfl
  · cases y <;> cases z <;> rfl
  · cases z <;> cases y <;> rfl
  · cases z <;> cases y <;> rfl

theorem encode_decodeFirst (op b1 b2 : Byte) :
    encode (decodeFirst op b1 b2) = op :: [b1, b2].take (immLen op) := by
  simpa only [loByte_cat, hiByte_cat] using encode_decodeFirst_word op (cat b2 b1)

/-- At most two bytes are read back from their first two places. -/
theorem take_getD_eq {imms : List Byte} {n : Nat} (h : imms.length = n) (hn : n ≤ 2) :
    [imms.getD 0 0, imms.getD 1 0].take n = imms := by
  subst h
  match imms, hn with
  | [], _ => rfl
  | [_], _ => rfl
  | [_, _], _ => rfl

theorem encode_decodeAt (cb : CbPrefix) {op : Byte} {imms : List Byte} (h : imms.length = immLen op) :
    encode (decodeAt cb op (imms.getD 0 0) (imms.getD 1 0)) = op :: imms := by
  rw [decodeAt, encode_resolveCb, encode_decodeFirst, take_getD_eq h (immLen_le_two op)]

/-- Settles O3: the bytes are an opcode, its immediates and the rest, and no bit of the first two is lost. -/
theorem encodeOfDecode : Obligations.EncodeOfDecode := by
  intro cb bytes i rest h
  obtain ⟨op, imms, rfl, himms, rfl⟩ := decode_eq_ok_iff.1 h
  rw [encode_decodeAt cb himms]

/-! ### Decoding what was encoded -/

/-- `i` is a row of the first-byte map: the map sends its bytes, which are as many as R86 says, back to it. -/
def IsFirstByteRow (i : Instr) : Prop :=
  ∃ op imms, encode i = op :: imms ∧ imms.length = immLen op ∧
    decodeFirst op (imms.getD 0 0) (imms.getD 1 0) = i

/-- Every instruction is a row of one of the two maps (R85, R90). -/
theorem Instr.cbRow_or_firstByteRow (i : Instr) : (∃ op2, i = decodeCb op2) ∨ IsFirstByteRow i := by
  refine Instr.forall_of_form (P := fun i => (∃ op2, i = decodeCb op2) ∨ IsFirstByteRow i) (fun f => ?_) i
  cases f <;> simp only [Form.instr]
  case shift op o => exact .inl ⟨_, (decodeCb_shift op o).symm⟩
  case bit b o => exact .inl ⟨_, (decodeCb_bit b o).symm⟩
  case res b o => exact .inl ⟨_, (decodeCb_res b o).symm⟩
  case set b o => exact .inl ⟨_, (decodeCb_set b o).symm⟩
  -- The rows with a word: its two bytes are put together again.
  case jp nn => exact .inr ⟨_, _, rfl, rfl, congrArg Instr.jpA16 (cat_hiByte_loByte nn)⟩
  case call nn => exact .inr ⟨_, _, rfl, rfl, congrArg Instr.callA16 (cat_hiByte_loByte nn)⟩
  case ldA16Sp nn => exact .inr ⟨_, _, rfl, rfl, congrArg Instr.ldIndA16Sp (cat_hiByte_loByte nn)⟩
  case storeA16 nn => exact .inr ⟨_, _, rfl, rfl, congrArg Instr.ldIndA16A (cat_hiByte_loByte nn)⟩
  case loadA16 nn => exact .inr ⟨_, _, rfl, rfl, congrArg Instr.ldAIndA16 (cat_hiByte_loByte nn)⟩
  case jpCc cc nn =>
    have hword := congrArg (Instr.jpCc cc) (cat_hiByte_loByte nn)
    cases cc <;> exact .inr ⟨_, _, rfl, rfl, hword⟩
  case callCc cc nn =>
    have hword := congrArg (Instr.callCc cc) (cat_hiByte_loByte nn)
    cases cc <;> exact .inr ⟨_, _, rfl, rfl, hword⟩
  case ldPairD16 p nn =>
    have hword := congrArg (Instr.ldPairD16 p) (cat_hiByte_loByte nn)
    cases p <;> exact .inr ⟨_, _, rfl, rfl, hword⟩
  -- The other rows with an operand code.
  case unknown u => cases u <;> exact .inr ⟨_, _, rfl, rfl, rfl⟩
  case alu op src =>
    cases op <;> (rcases src with r | _ | _ <;> [cases r; skip; skip]) <;> exact .inr ⟨_, _, rfl, rfl, rfl⟩
  case inc8 o => (rcases o with r | _ <;> [cases r; skip]) <;> exact .inr ⟨_, _, rfl, rfl, rfl⟩
  case dec8 o => (rcases o with r | _ <;> [cases r; skip]) <;> exact .inr ⟨_, _, rfl, rfl, rfl⟩
  case rotA op => cases op <;> exact .inr ⟨_, _, rfl, rfl, rfl⟩
  case incPair p => cases p <;> exact .inr ⟨_, _, rfl, rfl, rfl⟩
  case decPair p => cases p <;> exact .inr ⟨_, _, rfl, rfl, rfl⟩
  case addHl p => cases p <;> exact .inr ⟨_, _, rfl, rfl, rfl⟩
  case jrCc cc e => cases cc <;> exact .inr ⟨_, _, rfl, rfl, rfl⟩
  case retCc cc => cases cc <;> exact .inr ⟨_, _, rfl, rfl, rfl⟩
  case rst t => cases t <;> exact .inr ⟨_, _, rfl, rfl, rfl⟩
  case push p => cases p <;> exact .inr ⟨_, _, rfl, rfl, rfl⟩
  case pop p => cases p <;> exact .inr ⟨_, _, rfl, rfl, rfl⟩
  case ldRR dst src => cases dst <;> cases src <;> exact .inr ⟨_, _, rfl, rfl, rfl⟩
  case ldRHl dst => cases dst <;> exact .inr ⟨_, _, rfl, rfl, rfl⟩
  case ldHlR src => cases src <;> exact .inr ⟨_, _, rfl, rfl, rfl⟩
  case ldRD8 dst n => cases dst <;> exact .inr ⟨_, _, rfl, rfl, rfl⟩
  -- The rows that are one opcode.
  all_goals exact .inr ⟨_, _, rfl, rfl, rfl⟩

/-- A row of the first-byte map decodes back under a setting that leaves it as it is (R89). -/
theorem IsFirstByteRow.decode_encode {i : Instr} (h : IsFirstByteRow i) {cb : CbPrefix}
    (hcb : resolveCb cb i = i) (rest : List Byte) : decode cb (encode i ++ rest) = .ok (i, rest) := by
  obtain ⟨op, imms, henc, himms, hdec⟩ := h
  exact decode_eq_ok_iff.2 ⟨op, imms, by rw [henc], himms, by rw [decodeAt, hdec, hcb]⟩

theorem decode_encode_decodeCb (op2 : Byte) (rest : List Byte) :
    decode .execute (encode (decodeCb op2) ++ rest) = .ok (decodeCb op2, rest) := by
  rw [encode_decodeCb]
  rfl

/-- Settles O2: by the map an instruction is a row of. -/
theorem decodeOfEncode : Obligations.DecodeOfEncode := by
  refine ⟨fun i rest hi => ?_, fun i rest hi => ?_⟩
  · obtain ⟨op2, rfl⟩ | hrow := i.cbRow_or_firstByteRow
    · exact decode_encode_decodeCb op2 rest
    · exact hrow.decode_encode (resolveCb_of_ne hi .execute) rest
  · obtain ⟨op2, rfl⟩ | hrow := i.cbRow_or_firstByteRow
    · exact absurd rfl (hi op2)
    · exact hrow.decode_encode (resolveCb_refuse i) rest

/-- Settles O1: ten runs of the decoder. -/
theorem specWordsDecode : Obligations.SpecWordsDecode :=
  ⟨rfl, rfl, rfl, rfl, rfl, rfl, rfl, rfl, rfl, rfl⟩

/-! ### PC moves past an instruction's bytes -/

/-- The bytes of an instruction are an opcode and as many immediates as R86 gives it. -/
theorem length_encode {i : Instr} {op : Byte} {imms : List Byte} (h : encode i = op :: imms) :
    (encode i).length = 1 + immLen op := by
  obtain ⟨op2, rfl⟩ | ⟨op', imms', henc, himms, -⟩ := i.cbRow_or_firstByteRow
  · rw [encode_decodeCb] at h ⊢
    cases h
    rfl
  · rw [henc] at h ⊢
    cases h
    rw [List.length_cons, himms, Nat.add_comm]

namespace Machine

/-- The first byte is one of the slots R87 marks control-transfer. -/
def TransfersControl (i : Instr) : Prop := ∃ op imms, encode i = op :: imms ∧ op ∈ controlTransfer

/-- A meaning whose every answer without a mark has PC `len` bytes further. -/
def AdvancesBy (len : Nat) (s : State) (m : Out) : Prop :=
  ∀ t, m = .next t → t.refused = none → t.pc = s.nextPc len

/-- The end of a step that performed no `pc <- target` (R102). -/
theorem advance_advancesBy (len : Nat) (s u : State) : AdvancesBy len s (advance len s u) := by
  rintro t ⟨⟩ -
  rfl

/-- A refusal answers with the mark set (R34). -/
theorem refuse_advancesBy (len : Nat) (reason : RefuseReason) (s : State) :
    AdvancesBy len s (refuse reason s) := by
  rintro t ⟨⟩ ⟨⟩

theorem cbTable_advancesBy (op2 : Byte) (s : State) : AdvancesBy 2 s (cbTable op2 s) := by
  unfold cbTable
  cases xField op2 <;> exact advance_advancesBy 2 s _

theorem cbPrefix_advancesBy (op2 : Byte) (s : State) : AdvancesBy 2 s (cbPrefix op2 s) := by
  unfold cbPrefix
  split
  · exact refuse_advancesBy 2 _ s
  · exact cbTable_advancesBy op2 s

theorem execStop_advancesBy (n : Byte) (s : State) : AdvancesBy 2 s (execStop n s) := by
  unfold execStop
  split
  · exact advance_advancesBy 2 s _
  · exact refuse_advancesBy 2 _ s

theorem unknownOpcode_advancesBy {s : State} (h : s.params.unknownOpcode = .skip) (op : Byte) :
    AdvancesBy 1 s (unknownOpcode op s) := by
  unfold unknownOpcode
  rw [h]
  exact advance_advancesBy 1 s _

/-- A form that ends with `advance` moves PC by as many bytes as its encoding has; the forms that can end
elsewhere are the control transfers, the refusals and, under `stuck`, the unknown opcodes. -/
theorem exec_advancesBy_or_transfersControl {s : State} (hskip : s.params.unknownOpcode = .skip) (i : Instr) :
    AdvancesBy (encode i).length s (exec i s) ∨ TransfersControl i := by
  refine Instr.forall_of_form
    (P := fun i => AdvancesBy (encode i).length s (exec i s) ∨ TransfersControl i) (fun f => ?_) i
  cases f <;> simp only [Form.instr]
  case stop n => exact .inl (execStop_advancesBy n s)
  case prefixCb op2 => exact .inl (cbPrefix_advancesBy op2 s)
  case unknown u =>
    rw [exec_unknown]
    cases u <;> exact .inl (unknownOpcode_advancesBy hskip _)
  case jr e => exact .inr ⟨_, _, rfl, by decide⟩
  case jrCc cc e => cases cc <;> exact .inr ⟨_, _, rfl, by decide⟩
  case jp nn => exact .inr ⟨_, _, rfl, by decide⟩
  case jpCc cc nn => cases cc <;> exact .inr ⟨_, _, rfl, by decide⟩
  case jpHl => exact .inr ⟨_, _, rfl, by decide⟩
  case call nn => exact .inr ⟨_, _, rfl, by decide⟩
  case callCc cc nn => cases cc <;> exact .inr ⟨_, _, rfl, by decide⟩
  case ret => exact .inr ⟨_, _, rfl, by decide⟩
  case retCc cc => cases cc <;> exact .inr ⟨_, _, rfl, by decide⟩
  case reti => exact .inr ⟨_, _, rfl, by decide⟩
  case rst t => cases t <;> exact .inr ⟨_, _, rfl, by decide⟩
  case shift op o =>
    rw [exec_shift, ← decodeCb_shift, encode_decodeCb]
    exact .inl (advance_advancesBy 2 s _)
  case bit b o =>
    rw [exec_bit, ← decodeCb_bit, encode_decodeCb]
    exact .inl (advance_advancesBy 2 s _)
  case res b o =>
    rw [exec_res, ← decodeCb_res, encode_decodeCb]
    exact .inl (advance_advancesBy 2 s _)
  case set b o =>
    rw [exec_set, ← decodeCb_set, encode_decodeCb]
    exact .inl (advance_advancesBy 2 s _)
  -- The other forms with an operand code: the code decides the opcode and not the length.
  case alu op src =>
    rw [exec_alu]
    cases op <;> (rcases src with r | _ | _ <;> [cases r; skip; skip]) <;>
      exact .inl (advance_advancesBy _ s _)
  case inc8 o =>
    rw [exec_inc8]
    (rcases o with r | _ <;> [cases r; skip]) <;> exact .inl (advance_advancesBy 1 s _)
  case dec8 o =>
    rw [exec_dec8]
    (rcases o with r | _ <;> [cases r; skip]) <;> exact .inl (advance_advancesBy 1 s _)
  case rotA op => rw [exec_rotA]; cases op <;> exact .inl (advance_advancesBy 1 s _)
  case incPair p => rw [exec_incPair]; cases p <;> exact .inl (advance_advancesBy 1 s _)
  case decPair p => rw [exec_decPair]; cases p <;> exact .inl (advance_advancesBy 1 s _)
  case addHl p => rw [exec_addHl]; cases p <;> exact .inl (advance_advancesBy 1 s _)
  case push p => rw [exec_push]; cases p <;> exact .inl (advance_advancesBy 1 s _)
  case pop p => rw [exec_pop]; cases p <;> exact .inl (advance_advancesBy 1 s _)
  case ldRR dst src =>
    rw [exec_ldRR]
    cases dst <;> cases src <;> exact .inl (advance_advancesBy 1 s _)
  case ldRHl dst => rw [exec_ldRHl]; cases dst <;> exact .inl (advance_advancesBy 1 s _)
  case ldHlR src => rw [exec_ldHlR]; cases src <;> exact .inl (advance_advancesBy 1 s _)
  case ldRD8 dst n => rw [exec_ldRD8]; cases dst <;> exact .inl (advance_advancesBy 2 s _)
  case ldPairD16 p nn => rw [exec_ldPairD16]; cases p <;> exact .inl (advance_advancesBy 3 s _)
  -- The forms that are one row each.
  all_goals exact .inl (advance_advancesBy _ s _)

/-- Settles O9: the slot is no control transfer, so the instruction ends past its 1 + L bytes. -/
theorem pcAdvancesByLength : Obligations.PcAdvancesByLength := by
  intro i s t op imms hexec henc hop _ hrefused hskip
  obtain hadv | ⟨op', imms', henc', hop'⟩ := exec_advancesBy_or_transfersControl hskip i
  · rw [hadv t hexec hrefused, length_encode henc]
    rfl
  · rw [henc] at henc'
    cases henc'
    exact absurd hop' hop

end Machine

end Sys2Proof
end

section
/-! PROOFS. The family 40_dispatch: where a step exists and which instruction it runs, the row 0xCB, the
unknown opcodes, and NOP, HALT, STOP, DI and EI (spec/40_dispatch.md). -/

namespace Sys2Proof

open Machine

/-! ### The instruction a step runs -/

/-- Three bytes decode to the instruction at the first, whatever its length: the bytes past it change nothing
(R64, R86, log 10). -/
theorem decode_three_bytes (cb : CbPrefix) (op b1 b2 : Byte) :
    decode cb [op, b1, b2] = .ok (decodeAt cb op b1 b2, [b1, b2].drop (immLen op)) := by
  obtain hlen | hlen | hlen := immLen_cases op
  · simp [decode, hlen, decodeAt, decodeFirst_of_immLen_zero hlen b1 b2]
  · simp [decode, hlen, decodeAt, decodeFirst_of_immLen_one hlen b1 b2]
  · simp [decode, hlen]

/-- Where the three bytes at PC decode, `fetch` answers what they decode to (R100). -/
theorem Machine.fetch_of_decode {s : State} {i : Instr} {rest : List Byte}
    (h : decode s.params.cbPrefix [s.read8 s.pc, s.read8 (s.pc + 1), s.read8 (s.pc + 2)] = .ok (i, rest)) :
    fetch s = i := by
  rw [decode_three_bytes] at h
  cases h
  rfl

/-- The 11 bytes of R88 are the bytes of the unknown rows. -/
theorem mem_unknownBytes_iff (b : Byte) : b ∈ unknownBytes ↔ ∃ u : UnknownOp, u.byte = b := by
  constructor
  · intro h
    obtain ⟨u, hu, -⟩ := decodeAt_unknown h .refuse 0 0
    exact ⟨u, hu⟩
  · rintro ⟨u, rfl⟩
    exact u.byte_mem

namespace Machine

/-! ### Where a step exists -/

theorem step_of_noStep {s : State} {stopped : Out} (h : noStep s = some stopped) : step s = stopped := by
  rw [step, h]

/-- Settles O5: the bytes past the instruction, which a step reads too, change nothing. -/
theorem stepRunsDecodedInstruction : Obligations.StepRunsDecodedInstruction := by
  intro s i rest hrunning hrefused hdec
  rw [step_eq_exec hrunning hrefused, fetch_of_decode hdec]

/-- Settles O6: a next state comes from `exec` alone, and `exec` answers one for every instruction. -/
theorem stepExistsIffRunningAndNotRefused : Obligations.StepExistsIffRunningAndNotRefused := by
  intro s
  constructor
  · rintro ⟨t, h⟩
    obtain ⟨hrunning, hrefused, -⟩ := step_eq_next h
    exact ⟨hrunning, hrefused⟩
  · rintro ⟨hrunning, hrefused⟩
    obtain ⟨t, ht, -⟩ := exec_effect (fetch s) s
    exact ⟨t, (step_eq_exec hrunning hrefused).trans ht⟩

/-- Settles O7: by the tests of `noStep`, `running` first. -/
theorem noStepAnswers : Obligations.NoStepAnswers := by
  intro s
  refine ⟨fun hhalted => ?_, fun hrunning hmark => ?_, fun hrunning hmark => ?_⟩
  · exact step_of_noStep (by simp [noStep, hhalted])
  · exact step_of_noStep (by simp [noStep, hrunning, hmark])
  · exact step_of_noStep (by simp [noStep, hrunning, hmark])

/-! ### The row 0xCB (R109) -/

theorem cbPrefix_of_refuse {s : State} (h : s.params.cbPrefix = .refuse) (op2 : Byte) :
    cbPrefix op2 s = .next { s with refused := some .cbPrefixRefused } := by
  rw [cbPrefix, h]
  rfl

theorem cbPrefix_of_execute {s : State} (h : s.params.cbPrefix = .execute) (op2 : Byte) :
    cbPrefix op2 s = exec (decodeCb op2) s := by
  rw [cbPrefix, h]
  exact cbTable_eq_exec op2 s

/-- Settles O50: under `execute` the row 0xCB means what the CB map's row means, which completes. -/
theorem prefixCbRefusesOrRunsTheCbMap : Obligations.PrefixCbRefusesOrRunsTheCbMap := by
  refine ⟨fun s op2 hcb => ?_, fun s op2 hcb => ?_, fun op2 => ⟨rfl, encode_decodeCb op2⟩⟩
  · rw [exec_prefixCb, cbPrefix_of_refuse hcb]
  · obtain ⟨t, ht, -⟩ := exec_effect (decodeCb op2) s
    exact ⟨t, by rw [exec_prefixCb, cbPrefix_of_execute hcb, ht], ht⟩

/-! ### The unknown opcodes (R108) -/

theorem exec_unknown_of_skip {s : State} (h : s.params.unknownOpcode = .skip) (u : UnknownOp) :
    exec (Instr.unknown u) s =
      .next ({ s with events := s.events ++ [Event.mk s.pc u.byte] }.ended (s.pc + 1)) := by
  rw [exec_unknown, unknownOpcode, h]
  exact advance_ended 1 rfl

theorem exec_unknown_of_stuck {s : State} (h : s.params.unknownOpcode = .stuck) (u : UnknownOp) :
    exec (Instr.unknown u) s = .next (s.ended s.pc) := by
  rw [exec_unknown, unknownOpcode, h]
  exact endStep_ended s.pc rfl

/-- Settles O54: one lemma per policy, and the bytes of R88. -/
theorem unknownOpcodes : Obligations.UnknownOpcodes :=
  ⟨fun _ u hskip => exec_unknown_of_skip hskip u,
    fun _ u hstuck => exec_unknown_of_stuck hstuck u,
    fun u => by cases u <;> rfl,
    mem_unknownBytes_iff⟩

/-- With no enable pending, ending a step at the PC it began at changes nothing (R102). -/
theorem State.ended_pc_self {s : State} (h : s.imePending = false) : s.ended s.pc = s := by
  cases s
  simp_all [State.ended]

/-- Under `stuck` an unknown opcode at PC is a step from the state to itself (R108, R301). -/
theorem step_self_of_stuck {s : State} (hrunning : s.running = true) (hrefused : s.refused = none)
    (hpending : s.imePending = false) (hstuck : s.params.unknownOpcode = .stuck)
    (hop : s.read8 s.pc ∈ unknownBytes) : step s = .next s := by
  obtain ⟨u, -, hu⟩ := decodeAt_unknown hop s.params.cbPrefix (s.read8 (s.pc + 1)) (s.read8 (s.pc + 2))
  have hfetch : fetch s = Instr.unknown u := hu
  rw [step_eq_exec hrunning hrefused, hfetch, exec_unknown_of_stuck hstuck, State.ended_pc_self hpending]

/-- One round of the driver loop that is told to go on (R318). -/
theorem drive_go_on {s t : State} (hrunning : s.running = true) (hrefused : s.refused = none)
    (hstep : step s = .next t) (answers : List Bool) : drive (false :: answers) s = drive answers t := by
  rw [drive, if_pos hrunning, hrefused, hstep]

/-- The driver loop with its answers used up where a step exists (R318, log 13). -/
theorem drive_nil {s : State} (hrunning : s.running = true) (hrefused : s.refused = none) :
    drive [] s = (s, .running) := by
  rw [drive, if_pos hrunning, hrefused]

/-- Settles O55, by induction on the number of rounds: each is a step from the state to itself. -/
theorem stuckOpcodeLoopsForever : Obligations.StuckOpcodeLoopsForever := by
  intro s n hrunning hrefused hpending hstuck hop
  have hstep := step_self_of_stuck hrunning hrefused hpending hstuck hop
  induction n with
  | zero => exact drive_nil hrunning hrefused
  | succ n ih => rw [List.replicate_succ, drive_go_on hrunning hrefused hstep, ih]

/-! ### NOP, HALT and STOP (R103, R104, R105) -/

theorem exec_stop_zero (s : State) : exec (.stop 0x00) s = advance 2 s s.halt := by
  rw [exec_stop, execStop, if_pos rfl]

theorem exec_stop_of_ne_zero {b : Byte} (h : b ≠ 0x00) (s : State) :
    exec (.stop b) s = refuse .stopNonZeroOperand s := by
  rw [exec_stop, execStop, if_neg h]

/-- Settles O51: the first three leave a pending enable to the end of the step, the refusal does not reach it. -/
theorem nopHaltStop : Obligations.NopHaltStop := by
  refine ⟨fun s => ?_, fun s => ?_, fun s => ?_, fun s b hb => ?_, rfl, rfl, fun _ => rfl⟩
  · exact (exec_nop s).trans (advance_ended 1 rfl)
  · exact (exec_halt s).trans (advance_ended 1 rfl)
  · exact (exec_stop_zero s).trans (advance_ended 2 rfl)
  · exact exec_stop_of_ne_zero hb s

/-! ### DI and EI (R106, R107) -/

/-- Where no enable was pending before the step, or none is left, its end moves PC alone (R102). -/
theorem advance_of_not_pending (len : Nat) {s0 s : State} (h : s0.imePending = false ∨ s.imePending = false) :
    advance len s0 s = .next { s with pc := s0.nextPc len } := by
  rw [advance_eq, settleIme_eq_if, if_neg]
  obtain hnone | hnone := h <;> simp [hnone]

/-- Where an enable was pending before the step and still is, its end sets IME (R102). -/
theorem advance_of_pending (len : Nat) {s0 s : State} (hbefore : s0.imePending = true)
    (hleft : s.imePending = true) :
    advance len s0 s = .next { s with pc := s0.nextPc len, ime := true, imePending := false } := by
  rw [advance_eq, settleIme_eq_if, if_pos ⟨hbefore, hleft⟩]

/-- Settles O52: DI leaves no enable pending; EI leaves one, which its own end takes up if one stood before. -/
theorem diAndEi : Obligations.DiAndEi := by
  refine ⟨fun s => ?_, fun s hnone => ?_, fun s hpending => ?_, rfl, rfl⟩
  · exact (exec_di s).trans (advance_of_not_pending 1 (.inr rfl))
  · exact (exec_ei s).trans (advance_of_not_pending 1 (.inl hnone))
  · exact (exec_ei s).trans (advance_of_pending 1 hpending rfl)

end Machine

end Sys2Proof
end

section
/-! PROOFS. The family 41_alu8: the 8-bit ALU on A in its three forms, and INC and DEC of a register or of the
byte at HL (spec/41_alu8.md). -/

namespace Sys2Proof.Machine

open Sys2Proof.Claims

/-! ### Results on bytes (R131, R132)

The model narrows an exact integer. On bytes that is the sum or the difference of the bytes. -/

theorem trunc8_natCast (n : Nat) : trunc8 n = BitVec.ofNat 8 n := BitVec.ofInt_natCast 8 n

theorem trunc8_toNat (a : Byte) : trunc8 a.toNat = a := by
  rw [trunc8_natCast, BitVec.ofNat_toNat, BitVec.setWidth_eq]

theorem trunc8_add (x y : Int) : trunc8 (x + y) = trunc8 x + trunc8 y := BitVec.ofInt_add x y

theorem trunc8_sub (x y : Int) : trunc8 (x - y) = trunc8 x - trunc8 y := Int.cast_sub (R := Byte) x y

theorem ofNat_eq_zero_iff (n : Nat) : BitVec.ofNat 8 n = 0 ↔ n % 256 = 0 := by
  rw [← BitVec.toNat_inj, BitVec.toNat_ofNat]
  rfl

/-- ADD and ADC with the carry folded into every sum. -/
theorem addResult_eq (a b : Byte) (carry : Bool) : addResult a b carry =
    { value := BitVec.ofNat 8 (a.toNat + b.toNat + carry.toNat)
      z := decide ((a.toNat + b.toNat + carry.toNat) % 256 = 0)
      n := false
      h := decide (a.toNat % 16 + b.toNat % 16 + carry.toNat > 0xF)
      c := decide (a.toNat + b.toNat + carry.toNat > 0xFF) } := by
  simp only [addResult, trunc8_natCast, beq_eq_decide, ofNat_eq_zero_iff]

/-- ADD: no carry is taken in. -/
theorem addResult_false (a b : Byte) : addResult a b false =
    { value := a + b
      z := decide (a + b = 0)
      n := false
      h := decide (a.toNat % 16 + b.toNat % 16 > 0xF)
      c := decide (a.toNat + b.toNat > 0xFF) } := by
  have hsum : trunc8 (a.toNat + b.toNat : Nat) = a + b := by
    rw [Nat.cast_add, trunc8_add, trunc8_toNat, trunc8_toNat]
  simp only [addResult, Bool.toNat_false, Nat.add_zero, hsum, beq_eq_decide]

/-- SUB, CP and SBC with the borrow folded into every comparison. -/
theorem subResult_eq (a b : Byte) (carry : Bool) : subResult a b carry =
    { value := a - b - BitVec.ofNat 8 carry.toNat
      z := decide (a - b - BitVec.ofNat 8 carry.toNat = 0)
      n := true
      h := decide (a.toNat % 16 < b.toNat % 16 + carry.toNat)
      c := decide (a.toNat < b.toNat + carry.toNat) } := by
  have hdiff : trunc8 (a.toNat - b.toNat - carry.toNat) = a - b - BitVec.ofNat 8 carry.toNat := by
    rw [trunc8_sub, trunc8_sub, trunc8_toNat, trunc8_toNat, trunc8_natCast]
  simp only [subResult, hdiff, beq_eq_decide]

/-- SUB and CP: no borrow is taken in. -/
theorem subResult_false (a b : Byte) : subResult a b false =
    { value := a - b
      z := decide (a = b)
      n := true
      h := decide (a.toNat % 16 < b.toNat % 16)
      c := decide (a.toNat < b.toNat) } := by
  have hdiff : a - b - BitVec.ofNat 8 0 = a - b := BitVec.sub_zero _
  simp only [subResult_eq, Bool.toNat_false, Nat.add_zero, hdiff, sub_eq_zero]

/-! ### INC and DEC on bytes (R157)

The carry is a match on the setting of INCDEC_CARRY, which the statements write as the model does. -/

theorem incResult_value (mode : IncDecCarry) (v : Byte) (fc : Bool) : (incResult mode v fc).value = v + 1 := by
  change trunc8 (v.toNat + 1) = v + 1
  rw [trunc8_add, trunc8_toNat]
  rfl

theorem incResult_z (mode : IncDecCarry) (v : Byte) (fc : Bool) :
    (incResult mode v fc).z = decide (v = 0xFF) := by
  have hzero : v + 1 = 0 ↔ v = 0xFF := by bv_omega
  change ((incResult mode v fc).value == 0) = _
  simp only [incResult_value, beq_eq_decide, hzero]

theorem incResult_h (mode : IncDecCarry) (v : Byte) (fc : Bool) :
    (incResult mode v fc).h = decide (v.toNat % 16 = 0xF) :=
  decide_eq_decide.2 (by omega)

theorem decResult_value (mode : IncDecCarry) (v : Byte) (fc : Bool) : (decResult mode v fc).value = v - 1 := by
  change trunc8 (v.toNat - 1) = v - 1
  rw [trunc8_sub, trunc8_toNat]
  rfl

theorem decResult_z (mode : IncDecCarry) (v : Byte) (fc : Bool) :
    (decResult mode v fc).z = decide (v = 0x01) := by
  change ((decResult mode v fc).value == 0) = _
  simp only [decResult_value, beq_eq_decide, sub_eq_zero]

theorem decResult_h (mode : IncDecCarry) (v : Byte) (fc : Bool) :
    (decResult mode v fc).h = decide (v.toNat % 16 = 0) :=
  decide_eq_decide.2 Nat.lt_one_iff

/-! ### An ALU instruction in its three forms (R130) -/

/-- The state an ALU instruction ends its step with: A unless the operation discards the result, and the
flags. -/
def aluEffect (op : AluOp) (s : State) (b : Byte) : State :=
  let r := aluResult op s.a b s.fc
  (if writesA op then { s with a := r.value } else s).setFlags r.z r.n r.h r.c

/-- An ALU instruction completes past its bytes, whatever its second operand. -/
theorem exec_alu_ended (op : AluOp) (src : AluSrc) (s : State) : exec (Instr.alu op src) s =
    .next ((aluEffect op s (s.aluSrc src)).ended (s.nextPc (aluLen src))) := by
  rw [exec_alu]
  exact advance_ended _ (by cases op <;> rfl)

theorem encode_alu_reg (op : AluOp) (r : Reg8) :
    encode (Instr.alu op (.reg r)) = [0x80 + 8 * op.code + r.code] := by
  cases op <;> cases r <;> rfl

theorem encode_alu_indHl (op : AluOp) : encode (Instr.alu op .indHl) = [0x86 + 8 * op.code] := by
  cases op <;> rfl

theorem encode_alu_imm (op : AluOp) (n : Byte) :
    encode (Instr.alu op (.imm n)) = [0xC6 + 8 * op.code, n] := by
  cases op <;> rfl

/-- The rule of an operation holds once its effect on A and the flags is known. -/
theorem aluRule_of_aluEffect {op : AluOp} {effect : State → Byte → State}
    (h : ∀ s b, aluEffect op s b = effect s b) : AluRule op effect := by
  obtain rfl : aluEffect op = effect := funext₂ h
  exact ⟨fun s r => exec_alu_ended op (.reg r) s, fun s => exec_alu_ended op .indHl s,
    fun s n => exec_alu_ended op (.imm n) s, encode_alu_reg op, encode_alu_indHl op, encode_alu_imm op⟩

/-- Settles O21: with no carry taken in, the exact sum narrowed is the sum of the bytes. -/
theorem addResultAndFlags : Obligations.AddResultAndFlags :=
  aluRule_of_aluEffect fun s b => by
    rw [aluEffect, aluResult, addResult_false]
    rfl

/-- Settles O22: the zero flag tests the sum modulo 256. -/
theorem adcResultAndFlags : Obligations.AdcResultAndFlags :=
  aluRule_of_aluEffect fun s b => by
    rw [aluEffect, aluResult, addResult_eq]
    rfl

/-- Settles O23: with no borrow taken in, the difference is 0 exactly where the bytes are equal. -/
theorem subResultAndFlags : Obligations.SubResultAndFlags :=
  aluRule_of_aluEffect fun s b => by
    rw [aluEffect, aluResult, subResult_false]
    rfl

/-- Settles O24: narrowing the exact difference subtracts the bytes and the borrow. -/
theorem sbcResultAndFlags : Obligations.SbcResultAndFlags :=
  aluRule_of_aluEffect fun s b => by
    rw [aluEffect, aluResult, subResult_eq]
    rfl

/-- Settles O25: the model's logic result is the stated one, the half-carry forced. -/
theorem logicResultAndFlags : Obligations.LogicResultAndFlags :=
  ⟨aluRule_of_aluEffect fun _ _ => rfl, aluRule_of_aluEffect fun _ _ => rfl,
    aluRule_of_aluEffect fun _ _ => rfl⟩

/-- Settles O26: the flags of SUB, its result discarded. -/
theorem cpFlagsOnly : Obligations.CpFlagsOnly :=
  aluRule_of_aluEffect fun s b => by
    rw [aluEffect, aluResult, subResult_false]
    rfl

/-! ### INC and DEC of a register and of the byte at HL -/

/-- The state INC and DEC end their step with: the operand and the flags of a result. -/
def State.setOpndFlags (s : State) (o : Opnd8) (r : AluResult) : State :=
  (s.setOpnd o r.value).setFlags r.z r.n r.h r.c

theorem exec_inc8_ended (o : Opnd8) (s : State) : exec (Instr.inc8 o) s =
    .next ((s.setOpndFlags o (incResult s.params.incDecCarry (s.opnd o) s.fc)).ended (s.pc + 1)) := by
  rw [exec_inc8]
  exact advance_ended 1 (by simp)

theorem exec_dec8_ended (o : Opnd8) (s : State) : exec (Instr.dec8 o) s =
    .next ((s.setOpndFlags o (decResult s.params.incDecCarry (s.opnd o) s.fc)).ended (s.pc + 1)) := by
  rw [exec_dec8]
  exact advance_ended 1 (by simp)

theorem encode_inc8 (o : Opnd8) : encode (Instr.inc8 o) = [0x04 + 8 * o.code] := by
  cases o with
  | reg r => cases r <;> rfl
  | indHl => rfl

theorem encode_dec8 (o : Opnd8) : encode (Instr.dec8 o) = [0x05 + 8 * o.code] := by
  cases o with
  | reg r => cases r <;> rfl
  | indHl => rfl

/-- Settles O27: the two operand forms are one claim about `opnd` and `setOpnd`. -/
theorem incByteResultAndFlags : Obligations.IncByteResultAndFlags := by
  refine ⟨fun s r => ?_, fun s => ?_, encode_inc8⟩
  all_goals
    rw [exec_inc8_ended, State.setOpndFlags, incResult_value, incResult_z, incResult_h]
    rfl

/-- Settles O28: as O27, with the results of DEC. -/
theorem decByteResultAndFlags : Obligations.DecByteResultAndFlags := by
  refine ⟨fun s r => ?_, fun s => ?_, encode_dec8⟩
  all_goals
    rw [exec_dec8_ended, State.setOpndFlags, decResult_value, decResult_z, decResult_h]
    rfl

end Sys2Proof.Machine
end

section
/-! PROOFS. The family 42_alu_misc: the rotates of A, DAA and what it is for, CPL, SCF and CCF
(spec/42_alu_misc.md). -/

namespace Sys2Proof.Machine

open Sys2Proof.Claims

/-! ### Rotates of A (R170 to R173)

The model shifts bits. In arithmetic, a shift doubles or halves the byte and the bit shifted in is added at the
end that became free. -/

theorem toNat_decide (p : Prop) [Decidable p] : (decide p).toNat = if p then 1 else 0 :=
  apply_ite Bool.toNat p true false

theorem flagBit_toNat (c : Bool) : (flagBit c).toNat = c.toNat := by cases c <;> rfl

theorem shiftLeftIn_eq (v : Byte) (c : Bool) : shiftLeftIn v c = BitVec.ofNat 8 (2 * v.toNat + c.toNat) := by
  apply BitVec.eq_of_toNat_eq
  have hc : c.toNat < 2 ^ 1 := c.toNat_lt
  calc (shiftLeftIn v c).toNat = v.toNat <<< 1 % 2 ^ 8 ||| c.toNat := by
        rw [shiftLeftIn, BitVec.toNat_or, BitVec.toNat_shiftLeft, flagBit_toNat]
    _ = (v.toNat <<< 1 ||| c.toNat) % 2 ^ 8 := by
        rw [Nat.or_mod_two_pow, Nat.mod_eq_of_lt (a := c.toNat) (by omega)]
    _ = (BitVec.ofNat 8 (2 * v.toNat + c.toNat)).toNat := by
        rw [← Nat.shiftLeft_add_eq_or_of_lt hc, Nat.shiftLeft_eq, BitVec.toNat_ofNat, Nat.mul_comm]

theorem shiftRightIn_eq (v : Byte) (c : Bool) :
    shiftRightIn v c = BitVec.ofNat 8 (v.toNat / 2 + 128 * c.toNat) := by
  apply BitVec.eq_of_toNat_eq
  have hv : v.toNat / 2 < 2 ^ 7 := by have := v.isLt; omega
  have hc : c.toNat < 2 := c.toNat_lt
  calc (shiftRightIn v c).toNat = v.toNat / 2 ||| c.toNat * 2 ^ 7 := by
        rw [shiftRightIn, BitVec.toNat_or, BitVec.toNat_ushiftRight, BitVec.toNat_shiftLeft, flagBit_toNat,
          Nat.shiftRight_one, Nat.shiftLeft_eq, Nat.mod_eq_of_lt (by omega)]
    _ = v.toNat / 2 + 128 * c.toNat := by
        rw [Nat.or_comm, Nat.mul_comm, ← Nat.two_pow_add_eq_or_of_lt hv, Nat.add_comm]
    _ = (BitVec.ofNat 8 (v.toNat / 2 + 128 * c.toNat)).toNat := by
        rw [BitVec.toNat_ofNat, Nat.mod_eq_of_lt (by omega)]

/-- The bit that leaves on the left. -/
theorem getLsbD_seven (v : Byte) : v.getLsbD 7 = decide (v.toNat ≥ 128) := BitVec.msb_eq_decide v

/-- The bit that leaves on the right. -/
theorem getLsbD_zero (v : Byte) : v.getLsbD 0 = decide (v.toNat % 2 = 1) := by
  rw [BitVec.getLsbD, Nat.testBit_zero]

/-- A rotate of A completes past its byte. -/
theorem exec_rotA_ended (op : RotA) (s : State) : exec (Instr.rotA op) s =
    .next (({ s with a := (rotAResult op s.a s.fc).1 }.setFlags false false false
      (rotAResult op s.a s.fc).2).ended (s.pc + 1)) := by
  rw [exec_rotA]
  exact advance_ended 1 rfl

theorem rotAResult_rlca (v : Byte) (fc : Bool) : rotAResult .rlca v fc =
    (BitVec.ofNat 8 (2 * v.toNat + v.toNat / 128), decide (v.toNat ≥ 128)) := by
  have hbit : (decide (v.toNat ≥ 128)).toNat = v.toNat / 128 := by
    have := v.isLt
    rw [toNat_decide]
    split <;> omega
  rw [rotAResult, shiftLeftIn_eq, getLsbD_seven, hbit]

theorem rotAResult_rrca (v : Byte) (fc : Bool) : rotAResult .rrca v fc =
    (BitVec.ofNat 8 (v.toNat / 2 + 128 * (v.toNat % 2)), decide (v.toNat % 2 = 1)) := by
  have hbit : (decide (v.toNat % 2 = 1)).toNat = v.toNat % 2 := by
    rw [toNat_decide]
    split <;> omega
  rw [rotAResult, shiftRightIn_eq, getLsbD_zero, hbit]

theorem rotAResult_rla (v : Byte) (fc : Bool) : rotAResult .rla v fc =
    (BitVec.ofNat 8 (2 * v.toNat + fc.toNat), decide (v.toNat ≥ 128)) := by
  rw [rotAResult, shiftLeftIn_eq, getLsbD_seven]

theorem rotAResult_rra (v : Byte) (fc : Bool) : rotAResult .rra v fc =
    (BitVec.ofNat 8 (v.toNat / 2 + 128 * fc.toNat), decide (v.toNat % 2 = 1)) := by
  rw [rotAResult, shiftRightIn_eq, getLsbD_zero]

/-- Settles O29: each rotate ends its step with its result in arithmetic. -/
theorem rotatesOfA : Obligations.RotatesOfA := by
  intro s
  refine ⟨?_, ?_, ?_, ?_, rfl, rfl, rfl, rfl⟩
  · exact (exec_rotA_ended .rlca s).trans (by rw [rotAResult_rlca]; rfl)
  · exact (exec_rotA_ended .rrca s).trans (by rw [rotAResult_rrca]; rfl)
  · exact (exec_rotA_ended .rla s).trans (by rw [rotAResult_rla]; rfl)
  · exact (exec_rotA_ended .rra s).trans (by rw [rotAResult_rra]; rfl)

/-! ### DAA (R174) -/

/-- The correction of DAA: 0x60 for the high digit, 0x06 for the low one. -/
def decimalCorrection (high low : Bool) : Nat := 0x60 * high.toNat + 0x06 * low.toNat

theorem ofNat_decimalCorrection : ∀ high low : Bool, BitVec.ofNat 8 (decimalCorrection high low) =
    (if high then 0x60 else 0) + (if low then 0x06 else 0) := by decide

/-- After an addition the two branches of R174 add one correction. -/
theorem daaResult_of_add (a : Byte) (h c : Bool) :
    let high := c || decide (a.toNat > 0x99)
    let low := h || decide (a.toNat % 16 > 0x09)
    daaResult a false h c = (a + BitVec.ofNat 8 (decimalCorrection high low), high) := by
  intro high low
  have hsum : (daaAdd a h c).1 = a.toNat + (decimalCorrection high low : Nat) := by
    change (if low then (if high then (a.toNat : Int) + 0x60 else a.toNat) + 0x06
      else if high then (a.toNat : Int) + 0x60 else a.toNat) = _
    cases high <;> cases low <;> simp [decimalCorrection, add_assoc]
  have hvalue : trunc8 (daaAdd a h c).1 = a + BitVec.ofNat 8 (decimalCorrection high low) := by
    rw [hsum, trunc8_add, trunc8_toNat, trunc8_natCast]
  exact Prod.ext hvalue rfl

/-- After a subtraction the two branches of R174 subtract one correction, and the carry stays. -/
theorem daaResult_of_sub (a : Byte) (h c : Bool) :
    daaResult a true h c = (a - BitVec.ofNat 8 (decimalCorrection c h), c) := by
  have hdiff : (daaSub a h c).1 = a.toNat - (decimalCorrection c h : Nat) := by
    cases c <;> cases h <;> simp [daaSub, decimalCorrection, sub_sub]
  have hvalue : trunc8 (daaSub a h c).1 = a - BitVec.ofNat 8 (decimalCorrection c h) := by
    rw [hdiff, trunc8_sub, trunc8_toNat, trunc8_natCast]
  exact Prod.ext hvalue rfl

/-- The state DAA ends its step with. -/
def daaEffect (s : State) : State :=
  let r := daaResult s.a s.fn s.fh s.fc
  { s with a := r.1, fz := decide (r.1 = 0), fh := false, fc := r.2 }

theorem exec_daa_ended (s : State) : exec .daa s = .next ((daaEffect s).ended (s.pc + 1)) := by
  rw [exec_daa]
  exact advance_ended 1 rfl

/-- Settles O30: by what FN says of the last operation. -/
theorem daaCorrection : Obligations.DaaCorrection := by
  intro s high low corr res
  have hresult : daaResult s.a s.fn s.fh s.fc = (res, high) := by
    cases hn : s.fn with
    | false => simp [daaResult_of_add, ofNat_decimalCorrection, res, corr, high, low, hn]
    | true => simp [daaResult_of_sub, ofNat_decimalCorrection, res, corr, high, low, hn]
  refine ⟨?_, rfl⟩
  rw [exec_daa_ended, daaEffect, hresult]

/-! ### DAA after an addition or a subtraction of packed decimal numbers

The packed digits of x and y are one number each. A digit is corrected exactly where its sum reached ten or its
difference borrowed. -/

theorem bcd_toNat {x : Nat} (hx : x < 100) : (bcd x).toNat = x / 10 * 16 + x % 10 := by
  rw [bcd, BitVec.toNat_ofNat]
  omega

theorem bcd_toNat_mod {x : Nat} (hx : x < 100) : (bcd x).toNat % 16 = x % 10 := by
  rw [bcd_toNat hx]
  omega

section Digits

variable {x y c : Nat} (hx : x < 100) (hy : y < 100) (hc : c ≤ 1)

include hx hy hc

/-- DAA's test for 0x60 finds a sum of at least 100. -/
theorem bcd_sum_high :
    let sum := (bcd x).toNat + (bcd y).toNat + c
    sum > 0xFF ∨ sum % 256 > 0x99 ↔ x + y + c ≥ 100 := by
  intro sum
  have hsum : sum = x / 10 * 16 + x % 10 + (y / 10 * 16 + y % 10) + c := by
    rw [← bcd_toNat hx, ← bcd_toNat hy]
  calc sum > 0xFF ∨ sum % 256 > 0x99 ↔ sum > 0x99 := by omega
    _ ↔ x + y + c ≥ 100 := by omega

/-- DAA's test for 0x06 finds a digit sum of at least ten. -/
theorem bcd_sum_low :
    let sum := (bcd x).toNat + (bcd y).toNat + c
    x % 10 + y % 10 + c > 0xF ∨ sum % 256 % 16 > 0x09 ↔ x % 10 + y % 10 + c ≥ 10 := by
  rw [bcd_toNat hx, bcd_toNat hy]
  omega

/-- The corrected sum has the digits of the decimal one. -/
theorem bcd_sum_corrected :
    BitVec.ofNat 8 ((bcd x).toNat + (bcd y).toNat + c) +
        BitVec.ofNat 8 (decimalCorrection (decide (x + y + c ≥ 100)) (decide (x % 10 + y % 10 + c ≥ 10))) =
      bcd ((x + y + c) % 100) := by
  rw [← BitVec.ofNat_add]
  apply BitVec.eq_of_toNat_eq
  rw [BitVec.toNat_ofNat, decimalCorrection, toNat_decide, toNat_decide, bcd_toNat hx, bcd_toNat hy,
    bcd_toNat (Nat.mod_lt _ (by decide))]
  split_ifs <;> omega

theorem bcd_difference_high : (bcd x).toNat < (bcd y).toNat + c ↔ x < y + c := by
  rw [bcd_toNat hx, bcd_toNat hy]
  omega

/-- The corrected difference has the digits of the decimal one: read as a sum, z + y + c = x or x + 100. -/
theorem bcd_difference_corrected :
    bcd x - bcd y - BitVec.ofNat 8 c -
        BitVec.ofNat 8 (decimalCorrection (decide (x < y + c)) (decide (x % 10 < y % 10 + c))) =
      bcd ((x + 100 - y - c) % 100) := by
  have hz : (x + 100 - y - c) % 100 < 100 := Nat.mod_lt _ (by decide)
  have hsum : (x + 100 - y - c) % 100 + y + c = x + if x < y + c then 100 else 0 := by
    split <;> omega
  rw [sub_eq_iff_eq_add, sub_eq_iff_eq_add, sub_eq_iff_eq_add]
  generalize (x + 100 - y - c) % 100 = z at hz hsum ⊢
  apply BitVec.eq_of_toNat_eq
  simp only [BitVec.toNat_add, BitVec.toNat_ofNat, Nat.mod_add_mod, Nat.add_mod_mod, decimalCorrection,
    toNat_decide, bcd_toNat hx, bcd_toNat hy, bcd_toNat hz]
  split_ifs at hsum ⊢ <;> omega

end Digits

/-- DAA on A and the flags an ALU operation left. -/
def AluResult.adjusted (r : AluResult) : Byte × Bool := daaResult r.value r.n r.h r.c

theorem addResult_adjusted {x y : Nat} (hx : x < 100) (hy : y < 100) (c : Bool) :
    (addResult (bcd x) (bcd y) c).adjusted =
      (bcd ((x + y + c.toNat) % 100), decide (x + y + c.toNat ≥ 100)) := by
  have hc := c.toNat_le
  rw [addResult_eq]
  dsimp only [AluResult.adjusted]
  rw [daaResult_of_add]
  simp only [BitVec.toNat_ofNat, Nat.reducePow, ← Bool.decide_or, bcd_toNat_mod hx, bcd_toNat_mod hy,
    bcd_sum_high hx hy hc, bcd_sum_low hx hy hc, bcd_sum_corrected hx hy hc]

theorem subResult_adjusted {x y : Nat} (hx : x < 100) (hy : y < 100) (c : Bool) :
    (subResult (bcd x) (bcd y) c).adjusted =
      (bcd ((x + 100 - y - c.toNat) % 100), decide (x < y + c.toNat)) := by
  have hc := c.toNat_le
  rw [subResult_eq]
  dsimp only [AluResult.adjusted]
  simp only [daaResult_of_sub, bcd_toNat_mod hx, bcd_toNat_mod hy, bcd_difference_high hx hy hc,
    bcd_difference_corrected hx hy hc]

/-- An operation that writes A, then DAA: A and FC are its adjusted result. -/
theorem exec_alu_daa {op : AluOp} (hop : writesA op = true) (s : State) (n : Byte) :
    let r := (aluResult op s.a n s.fc).adjusted
    ∃ t u, exec (Instr.alu op (.imm n)) s = .next t ∧ exec .daa t = .next u ∧ u.a = r.1 ∧ u.fc = r.2 := by
  refine ⟨_, _, exec_alu_ended op (.imm n) s, exec_daa_ended _, ?_⟩
  rw [aluEffect, if_pos hop]
  exact ⟨rfl, rfl⟩

/-- Settles O31: ADC and SBC leave results whose adjustment is the decimal one. -/
theorem daaGivesDecimalArithmetic : Obligations.DaaGivesDecimalArithmetic := by
  intro s x y hx hy ha
  have hadc := exec_alu_daa (op := .adc) rfl s (bcd y)
  have hsbc := exec_alu_daa (op := .sbc) rfl s (bcd y)
  rw [ha, aluResult, addResult_adjusted hx hy] at hadc
  rw [ha, aluResult, subResult_adjusted hx hy] at hsbc
  exact ⟨hadc, hsbc⟩

/-! ### CPL, SCF and CCF (R175 to R177) -/

theorem complement_eq_sub (v : Byte) : ~~~v = 0xFF - v := by bv_omega

/-- Settles O32: the three complete, CPL's complement being a subtraction from 0xFF. -/
theorem cplScfCcf : Obligations.CplScfCcf := by
  intro s
  refine ⟨?_, ?_, ?_, rfl, rfl, rfl⟩
  · rw [exec_cpl, execCpl, complement_eq_sub]
    exact advance_ended 1 rfl
  · rw [exec_scf, execScf]
    exact advance_ended 1 rfl
  · rw [exec_ccf, execCcf]
    exact advance_ended 1 rfl

end Sys2Proof.Machine
end

section
/-! PROOFS. The family 43_alu16: INC, DEC and ADD of a register pair, and SP plus a signed byte
(spec/43_alu16.md). -/

namespace Sys2Proof.Machine

open Sys2Proof.Claims

/-! ### Results on words (R192, R193)

The model narrows an exact sum, or adds a sign-extended byte; the statements add words, or narrow an exact signed
sum. -/

theorem trunc16_natCast_add_toNat (a b : Word) : trunc16 (a.toNat + b.toNat : Nat) = a + b := by
  rw [trunc16, BitVec.ofInt_natCast, BitVec.ofNat_add, BitVec.ofNat_toNat, BitVec.ofNat_toNat,
    BitVec.setWidth_eq, BitVec.setWidth_eq]

theorem add16Result_eq (a b : Word) : add16Result a b =
    (a + b, decide (a.toNat % 4096 + b.toNat % 4096 > 0x0FFF), decide (a.toNat + b.toNat > 0xFFFF)) :=
  Prod.ext (trunc16_natCast_add_toNat a b) rfl

/-- Sign-extending a byte and adding it is adding its signed value and wrapping. -/
theorem add_sext16_eq_offset (base : Word) (e : Byte) : base + sext16 e = offset base e := by
  rw [offset, BitVec.ofInt_add, BitVec.ofInt_natCast, BitVec.ofNat_toNat, BitVec.setWidth_eq]
  rfl

theorem addSpResult_eq (sp : Word) (e : Byte) : addSpResult sp e =
    (offset sp e, decide (sp.toNat % 16 + e.toNat % 16 > 0xF), decide (sp.toNat % 256 + e.toNat > 0xFF)) :=
  Prod.ext (add_sext16_eq_offset sp e) rfl

/-! ### INC, DEC and ADD HL of a pair (R190 to R192) -/

theorem exec_incPair_ended (p : Pair) (s : State) :
    exec (Instr.incPair p) s = .next ((s.setPair p (s.pair p + 1)).ended (s.pc + 1)) := by
  rw [exec_incPair]
  exact advance_ended 1 (State.setPair_imePending s p _)

theorem exec_decPair_ended (p : Pair) (s : State) :
    exec (Instr.decPair p) s = .next ((s.setPair p (s.pair p - 1)).ended (s.pc + 1)) := by
  rw [exec_decPair]
  exact advance_ended 1 (State.setPair_imePending s p _)

theorem exec_addHl_ended (p : Pair) (s : State) :
    exec (Instr.addHlPair p) s =
      .next (((s.setHl (s.hl + s.pair p)).setFlags s.fz false
        (decide (s.hl.toNat % 4096 + (s.pair p).toNat % 4096 > 0x0FFF))
        (decide (s.hl.toNat + (s.pair p).toNat > 0xFFFF))).ended (s.pc + 1)) := by
  rw [exec_addHl, addHl, add16Result_eq]
  exact advance_ended 1 rfl

theorem encode_incPair (p : Pair) : encode (Instr.incPair p) = [0x03 + 16 * p.code] := by
  cases p <;> rfl

theorem encode_decPair (p : Pair) : encode (Instr.decPair p) = [0x0B + 16 * p.code] := by
  cases p <;> rfl

theorem encode_addHlPair (p : Pair) : encode (Instr.addHlPair p) = [0x09 + 16 * p.code] := by
  cases p <;> rfl

/-- Settles O33: writing a pair touches no flag, and the exact sum of ADD HL narrowed is the sum of the words. -/
theorem pairArithmetic : Obligations.PairArithmetic :=
  ⟨fun s p => exec_incPair_ended p s, fun s p => exec_decPair_ended p s, fun s p => exec_addHl_ended p s,
    encode_incPair, encode_decPair, encode_addHlPair⟩

/-! ### SP plus a signed byte (R193, R194) -/

/-- Settles O34: the sign-extended sum is the signed one, and the flags are those of the unsigned low bytes. -/
theorem spPlusOffset : Obligations.SpPlusOffset := by
  refine ⟨fun s u => ?_, fun s u => ?_, fun _ => rfl, fun _ => rfl⟩
  · rw [exec_addSp, execAddSpE8, addSpResult_eq]
    exact advance_ended 2 rfl
  · rw [exec_ldHlSp, execLdHlSpE8, addSpResult_eq]
    exact advance_ended 2 rfl

end Sys2Proof.Machine
end

section
/-! PROOFS. The family 44_control: jumps, calls, restarts and returns (spec/44_control.md). -/

namespace Sys2Proof.Machine

open Sys2Proof.Claims

/-! ### Conditions (R78, R200) -/

theorem holds_iff_cond (cc : Cond) (s : State) : Holds cc s ↔ s.cond cc = true := by
  cases cc <;> simp [Holds, State.cond]

theorem cond_of_holds {cc : Cond} {s : State} (h : Holds cc s) : s.cond cc = true :=
  (holds_iff_cond cc s).1 h

theorem cond_of_not_holds {cc : Cond} {s : State} (h : ¬ Holds cc s) : s.cond cc = false :=
  Bool.eq_false_iff.2 (mt (holds_iff_cond cc s).2 h)

/-! ### Jumps (R201 to R205) -/

theorem jumpRelative_taken (e : Byte) (s : State) :
    jumpRelative true e s = .next (s.ended (offset (s.pc + 2) e)) := by
  rw [← add_sext16_eq_offset]
  exact endStep_ended _ rfl

theorem jumpRelative_not_taken (e : Byte) (s : State) :
    jumpRelative false e s = .next (s.ended (s.pc + 2)) := advance_ended 2 rfl

theorem jumpTo_taken (nn : Word) (s : State) : jumpTo true nn s = .next (s.ended nn) := endStep_ended nn rfl

theorem jumpTo_not_taken (nn : Word) (s : State) : jumpTo false nn s = .next (s.ended (s.pc + 3)) :=
  advance_ended 3 rfl

theorem encode_jrCc (cc : Cond) (e : Byte) : encode (Instr.jrCc cc e) = [0x20 + 8 * cc.code, e] := by
  cases cc <;> rfl

theorem encode_jpCc (cc : Cond) (nn : Word) :
    encode (Instr.jpCc cc nn) = [0xC2 + 8 * cc.code, loByte nn, hiByte nn] := by
  cases cc <;> rfl

/-- Settles O35: the condition is the one `exec` tests, and the sign-extended sum is the signed one. -/
theorem relativeJumps : Obligations.RelativeJumps := by
  refine ⟨fun s e => (exec_jr e s).trans (jumpRelative_taken e s), fun s cc e h => ?_, fun s cc e h => ?_,
    fun _ => rfl, encode_jrCc⟩
  · rw [exec_jrCc, cond_of_holds h, jumpRelative_taken]
  · rw [exec_jrCc, cond_of_not_holds h, jumpRelative_not_taken]

/-- Settles O36: the condition is the one `exec` tests. -/
theorem absoluteJumps : Obligations.AbsoluteJumps := by
  refine ⟨fun s nn => (exec_jp nn s).trans (jumpTo_taken nn s), fun s cc nn h => ?_, fun s cc nn h => ?_,
    fun s => (exec_jpHl s).trans (endStep_ended s.hl rfl), fun _ => rfl, encode_jpCc, rfl⟩
  · rw [exec_jpCc, cond_of_holds h, jumpTo_taken]
  · rw [exec_jpCc, cond_of_not_holds h, jumpTo_not_taken]

/-! ### What a push stores (R230) -/

theorem sub_one_sub_one (a : Word) : a - 1 - 1 = a - 2 := by bv_omega

theorem State.push16_read8_hi {s : State} (v : Word) (h : Memory.wf s.mem = true) :
    (s.push16 v).read8 (s.sp - 1) = hiByte v := by
  have hne : s.sp - 1 ≠ s.sp - 1 - 1 := by bv_omega
  calc (s.push16 v).read8 (s.sp - 1)
      _ = (s.pushByte (hiByte v)).read8 (s.sp - 1) :=
        State.read8_write8_other (s := s.pushByte (hiByte v)) (loByte v) hne
      _ = hiByte v := State.read8_write8_same (s := s) _ _ h

theorem State.push16_read8_lo {s : State} (v : Word) (h : Memory.wf s.mem = true) :
    (s.push16 v).read8 (s.sp - 1 - 1) = loByte v :=
  State.read8_write8_same (s := s.pushByte (hiByte v)) _ _ (State.pushByte_wf _ h)

/-- The model's push is the push of the statements: the low byte is stored last, at an address that is not the
high byte's, after a wrap too (R51, R230). -/
theorem push16_pushed {s : State} (v : Word) (h : Memory.wf s.mem = true) : Pushed s v (s.push16 v) := by
  refine ⟨sub_one_sub_one s.sp, State.push16_read8_hi v h, ?_, fun a hhi hlo => ?_, rfl⟩
  · rw [← sub_one_sub_one, State.push16_read8_lo v h]
  · rw [← sub_one_sub_one] at hlo
    exact State.push16_read8_other v (List.not_mem_cons_of_ne_of_not_mem hhi (mt List.mem_singleton.1 hlo))

/-! ### Calls and restarts (R206, R207, R210) -/

theorem callTo_taken (nn : Word) (s : State) :
    callTo true nn s = .next ((s.push16 (s.pc + 3)).ended nn) := endStep_ended nn rfl

theorem callTo_not_taken (nn : Word) (s : State) : callTo false nn s = .next (s.ended (s.pc + 3)) :=
  advance_ended 3 rfl

theorem restart_ended (t : Idx8) (s : State) :
    restart t s = .next ((s.push16 (s.pc + 1)).ended (BitVec.ofNat 16 (t.val * 8))) := endStep_ended _ rfl

theorem encode_callCc (cc : Cond) (nn : Word) :
    encode (Instr.callCc cc nn) = [0xC4 + 8 * cc.code, loByte nn, hiByte nn] := by
  cases cc <;> rfl

theorem encode_rst (t : Idx8) : encode (Instr.rst t) = [0xC7 + 8 * t.code] := by
  cases t <;> rfl

/-- Settles O37: the pushed state of each statement is the model's own push of the return address. -/
theorem callsAndRestarts : Obligations.CallsAndRestarts := by
  refine ⟨fun s nn hwf => ⟨_, push16_pushed _ hwf, (exec_call nn s).trans (callTo_taken nn s)⟩,
    fun s cc nn hwf h => ⟨_, push16_pushed _ hwf, ?_⟩, fun s cc nn h => ?_, fun _ => rfl,
    fun s t hwf => ⟨_, push16_pushed _ hwf, (exec_rst t s).trans (restart_ended t s)⟩, encode_callCc, encode_rst⟩
  · rw [exec_callCc, cond_of_holds h, callTo_taken]
  · rw [exec_callCc, cond_of_not_holds h, callTo_not_taken]

/-! ### Returns (R208, R209, R211) -/

/-- Two increments of SP are one addition of 2, after a wrap too (R231). -/
theorem State.popped_eq (s : State) : s.popped = { s with sp := s.sp + 2 } := by
  rw [State.popped, BitVec.add_assoc]
  rfl

theorem returnIf_taken (s : State) :
    returnIf true s = .next ({ s with sp := s.sp + 2 }.ended (cat (s.read8 (s.sp + 1)) (s.read8 s.sp))) := by
  rw [← State.popped_eq]
  exact endStep_ended _ rfl

theorem returnIf_not_taken (s : State) : returnIf false s = .next (s.ended (s.pc + 1)) := advance_ended 1 rfl

theorem execReti_ended (s : State) :
    execReti s =
      .next ({ s with sp := s.sp + 2, ime := true }.ended (cat (s.read8 (s.sp + 1)) (s.read8 s.sp))) := by
  rw [execReti, State.popped_eq]
  exact endStep_ended _ rfl

theorem encode_retCc (cc : Cond) : encode (Instr.retCc cc) = [0xC0 + 8 * cc.code] := by
  cases cc <;> rfl

/-- Settles O38: RETI's own write of IME is left alone by a pending EI, which sets it too (R102). -/
theorem returns : Obligations.Returns := by
  refine ⟨fun s => (exec_ret s).trans (returnIf_taken s), fun s cc h => ?_, fun s cc h => ?_,
    fun s => (exec_reti s).trans (execReti_ended s), rfl, rfl, encode_retCc⟩
  · rw [exec_retCc, cond_of_holds h, returnIf_taken]
  · rw [exec_retCc, cond_of_not_holds h, returnIf_not_taken]

end Sys2Proof.Machine
end

section
/-! PROOFS. The family 45_stack: PUSH and POP, what undoes what on the stack, and the 16-bit loads
(spec/45_stack.md). -/

namespace Sys2Proof.Machine

open Sys2Proof.Claims

/-! ### A pop takes back what a push stored (R230, R231) -/

theorem State.push16_popValue {s : State} (v : Word) (h : Memory.wf s.mem = true) :
    (s.push16 v).popValue = v := by
  rw [State.popValue, State.push16_sp, BitVec.sub_add_cancel, State.push16_read8_hi v h,
    State.push16_read8_lo v h, cat_hiByte_loByte]

theorem State.push16_sp_add_two (s : State) (v : Word) : (s.push16 v).sp + 2 = s.sp := by
  rw [State.push16_sp, sub_one_sub_one, BitVec.sub_add_cancel]

/-- RET in a state that a push of `v` ended with goes to `v`. -/
theorem exec_ret_of_push16 {s : State} (v pc : Word) (h : Memory.wf s.mem = true) :
    ∃ u, exec .ret ((s.push16 v).ended pc) = .next u ∧ u.pc = v ∧ u.sp = s.sp :=
  ⟨_, (exec_ret _).trans (returnIf_taken _), State.push16_popValue v h, State.push16_sp_add_two s v⟩

/-- Settles O39: CALL and RST end in a push of the return address, which RET takes back. -/
theorem callThenReturn : Obligations.CallThenReturn := by
  refine fun s hwf => ⟨fun nn => ?_, fun v => ?_⟩
  · obtain ⟨u, hret, hpc, hsp⟩ := exec_ret_of_push16 (s.pc + 3) nn hwf
    exact ⟨_, u, (exec_call nn s).trans (callTo_taken nn s), hret, hpc, hsp⟩
  · obtain ⟨u, hret, hpc, hsp⟩ := exec_ret_of_push16 (s.pc + 1) (BitVec.ofNat 16 (v.val * 8)) hwf
    exact ⟨_, u, (exec_rst v s).trans (restart_ended v s), hret, hpc, hsp⟩

/-! ### PUSH (R232) -/

theorem exec_push_ended (p : StackPair) (s : State) :
    exec (Instr.push p) s = .next ((s.push16 (s.stackPair p)).ended (s.pc + 1)) := by
  rw [exec_push]
  exact advance_ended 1 rfl

theorem exec_push_pushed {s : State} (p : StackPair) (h : Memory.wf s.mem = true) :
    ∃ t, Pushed s (s.stackPair p) t ∧ exec (Instr.push p) s = .next (t.ended (s.pc + 1)) :=
  ⟨_, push16_pushed _ h, exec_push_ended p s⟩

theorem encode_push (p : StackPair) : encode (Instr.push p) = [0xC5 + 16 * p.code] := by
  cases p <;> rfl

/-- Settles O40: one argument for the four pairs, AF being A and the packed flags. Under `Stack`, since
`pushPair` alone is the model's operation. -/
theorem Stack.pushPair : Obligations.PushPair :=
  ⟨fun _ hwf => ⟨exec_push_pushed .bc hwf, exec_push_pushed .de hwf, exec_push_pushed .hl hwf,
    exec_push_pushed .af hwf⟩, encode_push⟩

/-! ### POP (R233, R234) -/

theorem exec_pop_ended (p : StackPair) (s : State) :
    exec (Instr.pop p) s =
      .next ((({ s with sp := s.sp + 2 } : State).setStackPair p s.popValue).ended (s.pc + 1)) := by
  rw [exec_pop, popPair, State.popped_eq]
  exact advance_ended 1 (State.setStackPair_imePending _ p _)

theorem encode_pop (p : StackPair) : encode (Instr.pop p) = [0xC1 + 16 * p.code] := by
  cases p <;> rfl

theorem State.setBc_cat (s : State) (x y : Byte) : s.setBc (cat x y) = { s with b := x, c := y } := by
  rw [State.setBc, hiByte_cat, loByte_cat]

theorem State.setDe_cat (s : State) (x y : Byte) : s.setDe (cat x y) = { s with d := x, e := y } := by
  rw [State.setDe, hiByte_cat, loByte_cat]

theorem State.setHl_cat (s : State) (x y : Byte) : s.setHl (cat x y) = { s with h := x, l := y } := by
  rw [State.setHl, hiByte_cat, loByte_cat]

theorem cat_getLsbD_lo (x y : Byte) {k : Nat} (hk : k < 8) : (cat x y).getLsbD k = y.getLsbD k := by
  rw [← loByte_getLsbD _ hk, loByte_cat]

theorem State.setAf_cat (s : State) (x y : Byte) :
    s.setAf (cat x y) = { s with
      a := x, fz := y.getLsbD 7, fn := y.getLsbD 6, fh := y.getLsbD 5, fc := y.getLsbD 4 } := by
  rw [State.setAf, hiByte_cat, cat_getLsbD_lo x y (by decide), cat_getLsbD_lo x y (by decide),
    cat_getLsbD_lo x y (by decide), cat_getLsbD_lo x y (by decide)]
  rfl

/-- Settles O41: the pair takes the two bytes the popped word is made of. -/
theorem Stack.popPair : Obligations.PopPair := by
  refine ⟨fun s => ⟨?_, ?_, ?_, ?_⟩, encode_pop⟩
  · exact (exec_pop_ended .bc s).trans (by rw [State.setStackPair, State.popValue, State.setBc_cat])
  · exact (exec_pop_ended .de s).trans (by rw [State.setStackPair, State.popValue, State.setDe_cat])
  · exact (exec_pop_ended .hl s).trans (by rw [State.setStackPair, State.popValue, State.setHl_cat])
  · exact (exec_pop_ended .af s).trans (by rw [State.setStackPair, State.popValue, State.setAf_cat])

/-! ### PUSH then POP (R237) -/

theorem packF_and : ∀ z n h c : Bool, packF z n h c &&& 0xF0 = packF z n h c := by decide

/-- AF has no bits 3 to 0 to lose (R22, R25). -/
theorem State.af_and (s : State) : s.af &&& 0xFFF0 = s.af := by
  have hf : s.f &&& 0xF0 = s.f := packF_and s.fz s.fn s.fh s.fc
  calc s.af &&& 0xFFF0 = cat (s.a &&& 0xFF) (s.f &&& 0xF0) := (cat_and s.a s.f 0xFF 0xF0).symm
    _ = s.af := by rw [hf, show s.a &&& 0xFF = s.a from BitVec.and_allOnes, State.af]

/-- A pair's value written to the same pair of another state is its value there. -/
theorem State.setStackPair_stackPair (s t : State) (p : StackPair) :
    (t.setStackPair p (s.stackPair p)).stackPair p = s.stackPair p := by
  cases p with
  | bc => exact cat_hiByte_loByte s.bc
  | de => exact cat_hiByte_loByte s.de
  | hl => exact cat_hiByte_loByte s.hl
  | af => exact (setAf_af t s.af).trans s.af_and

theorem State.ended_popValue (s : State) (pc : Word) : (s.ended pc).popValue = s.popValue := rfl

theorem State.ended_stackPair (s : State) (pc : Word) (p : StackPair) :
    (s.ended pc).stackPair p = s.stackPair p := by
  cases p <;> rfl

/-- Settles O42: the popped value is the pushed one, and a pop stores nothing. -/
theorem pushThenPopRestores : Obligations.PushThenPopRestores := by
  intro s p hwf
  refine ⟨_, _, exec_push_ended p s, exec_pop_ended p _, ?_, ?_, State.read8_congr ?_⟩
  · rw [State.ended_popValue, State.push16_popValue _ hwf, State.ended_stackPair, State.setStackPair_stackPair]
  · exact (State.setStackPair_sp _ p _).trans (State.push16_sp_add_two s _)
  · exact State.setStackPair_mem _ p _

/-! ### The 16-bit loads (R235, R236, R245) -/

theorem exec_ldPairD16_ended (p : Pair) (nn : Word) (s : State) :
    exec (Instr.ldPairD16 p nn) s = .next ((s.setPair p nn).ended (s.pc + 3)) := by
  rw [exec_ldPairD16]
  exact advance_ended 3 (State.setPair_imePending s p nn)

theorem exec_ldSpHl_ended (s : State) :
    exec .ldSpHl s = .next ({ s with sp := s.hl }.ended (s.pc + 1)) := by
  rw [exec_ldSpHl]
  exact advance_ended 1 rfl

theorem exec_ldA16Sp_ended (nn : Word) (s : State) :
    exec (.ldIndA16Sp nn) s = .next ((s.write16 nn s.sp).ended (s.pc + 3)) := by
  rw [exec_ldA16Sp]
  exact advance_ended 3 rfl

theorem encode_ldPairD16 (p : Pair) (nn : Word) :
    encode (Instr.ldPairD16 p nn) = [0x01 + 16 * p.code, loByte nn, hiByte nn] := by
  cases p <;> rfl

/-- Settles O43: writing a pair is writing its two bytes, and a word is stored low byte first. -/
theorem sixteenBitLoads : Obligations.SixteenBitLoads :=
  ⟨fun s nn => ⟨exec_ldPairD16_ended .bc nn s, exec_ldPairD16_ended .de nn s, exec_ldPairD16_ended .hl nn s,
    exec_ldPairD16_ended .sp nn s⟩, encode_ldPairD16, exec_ldSpHl_ended, fun s nn => exec_ldA16Sp_ended nn s,
    rfl, fun _ => rfl⟩

end Sys2Proof.Machine
end

section
/-! PROOFS. The family 46_loads: the register and (HL) loads, the stores of A and the loads of A
(spec/46_loads.md). -/

namespace Sys2Proof.Machine

open Sys2Proof.Claims

/-! ### Registers and the byte at HL (R240 to R244)

`exec_ldHlR_ended` stands with the claim on stores into the next instruction. -/

theorem exec_ldRR_ended (dst src : Reg8) (s : State) :
    exec (Instr.ldRR dst src) s = .next ((s.setReg dst (s.reg src)).ended (s.pc + 1)) := by
  rw [exec_ldRR]
  exact advance_ended 1 (State.setReg_imePending s dst _)

/-- The address is the HL of `s`, so a destination H or L moves it after the read (R241). -/
theorem exec_ldRHl_ended (dst : Reg8) (s : State) :
    exec (Instr.ldRHl dst) s = .next ((s.setReg dst (s.read8 s.hl)).ended (s.pc + 1)) := by
  rw [exec_ldRHl]
  exact advance_ended 1 (State.setReg_imePending s dst _)

theorem exec_ldRD8_ended (dst : Reg8) (n : Byte) (s : State) :
    exec (Instr.ldRD8 dst n) s = .next ((s.setReg dst n).ended (s.pc + 2)) := by
  rw [exec_ldRD8]
  exact advance_ended 2 (State.setReg_imePending s dst n)

theorem exec_ldHlD8_ended (n : Byte) (s : State) :
    exec (.ldIndHlD8 n) s = .next ((s.write8 s.hl n).ended (s.pc + 2)) := by
  rw [exec_ldHlD8]
  exact advance_ended 2 rfl

theorem encode_ldRR (dst src : Reg8) :
    encode (Instr.ldRR dst src) = [0x40 + 8 * dst.code + src.code] := by
  cases dst <;> cases src <;> rfl

theorem encode_ldRHl (dst : Reg8) : encode (Instr.ldRHl dst) = [0x46 + 8 * dst.code] := by
  cases dst <;> rfl

theorem encode_ldHlR (src : Reg8) : encode (Instr.ldHlR src) = [0x70 + src.code] := by
  cases src <;> rfl

theorem encode_ldRD8 (dst : Reg8) (n : Byte) :
    encode (Instr.ldRD8 dst n) = [0x06 + 8 * dst.code, n] := by
  cases dst <;> rfl

/-- Settles O44: no load touches the pending EI, whichever register it writes. -/
theorem registerAndHlLoads : Obligations.RegisterAndHlLoads :=
  ⟨fun s dst src => exec_ldRR_ended dst src s, fun s dst => exec_ldRHl_ended dst s,
    fun s src => exec_ldHlR_ended src s, fun s dst n => exec_ldRD8_ended dst n s,
    fun s n => exec_ldHlD8_ended n s, encode_ldRR, encode_ldRHl, encode_ldHlR, encode_ldRD8, fun _ => rfl⟩

/-! ### Stores and loads of A (R246 to R259)

The model's `storeA` and `loadA` are one operation each over an address and a length. The forms that move HL end
their step on their own. -/

theorem toNat_cat (hi lo : Byte) : (cat hi lo).toNat = 256 * hi.toNat + lo.toNat := by
  rw [cat, BitVec.toNat_append, ← Nat.shiftLeft_add_eq_or_of_lt lo.isLt, Nat.shiftLeft_eq, Nat.mul_comm]

/-- The high-page sum does not wrap (R73). -/
theorem highPage_eq_cat (v : Byte) : highPage v = cat 0xFF v := by
  have hcat := toNat_cat 0xFF v
  unfold highPage
  bv_omega

theorem storeA_ended (len : Nat) (addr : Word) (s : State) :
    storeA len addr s = .next ((s.write8 addr s.a).ended (s.nextPc len)) := advance_ended len rfl

theorem loadA_ended (len : Nat) (addr : Word) (s : State) :
    loadA len addr s = .next ({ s with a := s.read8 addr }.ended (s.nextPc len)) := advance_ended len rfl

/-- Settles O45: each form is `storeA` at its address, or the same store with HL moved. -/
theorem storesOfA : Obligations.StoresOfA := by
  refine ⟨fun s => ⟨?bc, ?de, ?hlInc, ?hlDec, ?c⟩, fun s nn => ?a16, fun s n => ?high,
    rfl, rfl, rfl, rfl, rfl, fun _ => rfl, fun _ => rfl⟩
  case bc => exact (exec_storeBc s).trans (storeA_ended 1 s.bc s)
  case de => exact (exec_storeDe s).trans (storeA_ended 1 s.de s)
  case hlInc => exact (exec_storeHlInc s).trans (advance_ended 1 rfl)
  case hlDec => exact (exec_storeHlDec s).trans (advance_ended 1 rfl)
  case c => rw [← highPage_eq_cat]; exact (exec_storeC s).trans (storeA_ended 1 _ s)
  case a16 => exact (exec_storeA16 nn s).trans (storeA_ended 3 nn s)
  case high => rw [← highPage_eq_cat]; exact (exec_storeHigh n s).trans (storeA_ended 2 _ s)

/-- Settles O46: as O45, with `loadA`. -/
theorem loadsOfA : Obligations.LoadsOfA := by
  refine ⟨fun s => ⟨?bc, ?de, ?hlInc, ?hlDec, ?c⟩, fun s nn => ?a16, fun s n => ?high,
    rfl, rfl, rfl, rfl, rfl, fun _ => rfl, fun _ => rfl⟩
  case bc => exact (exec_loadBc s).trans (loadA_ended 1 s.bc s)
  case de => exact (exec_loadDe s).trans (loadA_ended 1 s.de s)
  case hlInc => exact (exec_loadHlInc s).trans (advance_ended 1 rfl)
  case hlDec => exact (exec_loadHlDec s).trans (advance_ended 1 rfl)
  case c => rw [← highPage_eq_cat]; exact (exec_loadC s).trans (loadA_ended 1 _ s)
  case a16 => exact (exec_loadA16 nn s).trans (loadA_ended 3 nn s)
  case high => rw [← highPage_eq_cat]; exact (exec_loadHigh n s).trans (loadA_ended 2 _ s)

end Sys2Proof.Machine
end

section
/-! PROOFS. The family 47_cb_prefix: the shifts and rotates, the bit tests, and the bit resets and sets of the CB
map (spec/47_cb_prefix.md). -/

namespace Sys2Proof.Machine

/-! ### Encodings (R280)

The CB map reads back the second byte, so the code that decodes to an instruction is its code. -/

theorem encode_shift (op : ShiftOp) (o : Opnd8) :
    encode (Instr.shift op o) = [0xCB, 8 * op.code + o.code] := by
  rw [← decodeCb_shift, encode_decodeCb]

theorem encode_bit (b : Idx8) (o : Opnd8) :
    encode (Instr.bit b o) = [0xCB, 0x40 + 8 * b.code + o.code] := by
  rw [← decodeCb_bit, encode_decodeCb]

theorem encode_res (b : Idx8) (o : Opnd8) :
    encode (Instr.res b o) = [0xCB, 0x80 + 8 * b.code + o.code] := by
  rw [← decodeCb_res, encode_decodeCb]

theorem encode_set (b : Idx8) (o : Opnd8) :
    encode (Instr.set b o) = [0xCB, 0xC0 + 8 * b.code + o.code] := by
  rw [← decodeCb_set, encode_decodeCb]

/-! ### Shifts and rotates (R281 to R288)

All but SWAP have the result of a rotate of A, with the bit shifted in as its carry. -/

/-- The shifted operand in arithmetic: `v` the value before, `c` the carry before. -/
def shiftedValue (op : ShiftOp) (v c : Nat) : Nat :=
  match op with
  | .rlc => (2 * v + v / 128) % 256
  | .rrc => v / 2 + 128 * (v % 2)
  | .rl => (2 * v + c) % 256
  | .rr => v / 2 + 128 * c
  | .sla => 2 * v % 256
  | .sra => v / 2 + 128 * (v / 128)
  | .swap => v % 16 * 16 + v / 16
  | .srl => v / 2

/-- The carry a shift leaves, in arithmetic on the value before. -/
def shiftedCarry (op : ShiftOp) (v : Nat) : Bool :=
  match op with
  | .rlc | .rl | .sla => decide (v ≥ 128)
  | .rrc | .rr | .sra | .srl => decide (v % 2 = 1)
  | .swap => false

theorem shiftedValue_lt (op : ShiftOp) {v c : Nat} (hv : v < 256) (hc : c < 2) : shiftedValue op v c < 256 := by
  unfold shiftedValue
  split <;> omega

theorem ofNat_mod_256 (n : Nat) : BitVec.ofNat 8 (n % 256) = BitVec.ofNat 8 n :=
  BitVec.eq_of_toNat_eq (Nat.mod_mod n 256)

theorem toNat_decide_ge_128 (v : Byte) : (decide (v.toNat ≥ 128)).toNat = v.toNat / 128 := by
  have := v.isLt
  rw [toNat_decide]
  split <;> omega

/-- SLA shifts a 0 in. -/
theorem shiftResult_sla (v : Byte) (fc : Bool) : shiftResult .sla v fc = rotAResult .rla v false :=
  congrArg (·, v.getLsbD 7) BitVec.or_zero.symm

/-- SRL shifts a 0 in. -/
theorem shiftResult_srl (v : Byte) (fc : Bool) : shiftResult .srl v fc = rotAResult .rra v false :=
  congrArg (·, v.getLsbD 0) BitVec.or_zero.symm

/-- SRA shifts the sign bit in. -/
theorem shiftResult_sra (v : Byte) (fc : Bool) : shiftResult .sra v fc = rotAResult .rra v (v.getLsbD 7) := by
  have hsign : v &&& (0x80 : Byte) = flagBit (v.getLsbD 7) <<< 7 := by
    refine (BitVec.and_twoPow v 7).trans ?_
    cases v.getLsbD 7 <;> rfl
  rw [shiftResult, hsign]
  rfl

/-- The low nibble moves up and the high nibble down. -/
theorem swappedNibbles_eq (v : Byte) :
    (v &&& 0x0F) <<< 4 ||| v >>> 4 = BitVec.ofNat 8 (v.toNat % 16 * 16 + v.toNat / 16) := by
  apply BitVec.eq_of_toNat_eq
  have hlow : (v &&& 0x0F).toNat = v.toNat % 16 := Nat.and_two_pow_sub_one_eq_mod v.toNat 4
  have hhigh : v.toNat / 16 < 2 ^ 4 := by have := v.isLt; omega
  calc ((v &&& 0x0F) <<< 4 ||| v >>> 4).toNat = v.toNat % 16 * 16 ||| v.toNat / 16 := by
        rw [BitVec.toNat_or, BitVec.toNat_shiftLeft, BitVec.toNat_ushiftRight, hlow, Nat.shiftLeft_eq,
          Nat.mod_eq_of_lt (by omega), Nat.shiftRight_eq_div_pow]
    _ = v.toNat % 16 * 16 + v.toNat / 16 := by
        rw [Nat.mul_comm]
        exact (Nat.two_pow_add_eq_or_of_lt hhigh _).symm
    _ = (BitVec.ofNat 8 (v.toNat % 16 * 16 + v.toNat / 16)).toNat := by
        rw [BitVec.toNat_ofNat, Nat.mod_eq_of_lt (a := _ + _) (by omega)]

theorem shiftResult_eq (op : ShiftOp) (v : Byte) (fc : Bool) : shiftResult op v fc =
    (BitVec.ofNat 8 (shiftedValue op v.toNat fc.toNat), shiftedCarry op v.toNat) := by
  cases op with
  | rlc => exact (rotAResult_rlca v fc).trans (by rw [← ofNat_mod_256]; rfl)
  | rrc => exact rotAResult_rrca v fc
  | rl => exact (rotAResult_rla v fc).trans (by rw [← ofNat_mod_256]; rfl)
  | rr => exact rotAResult_rra v fc
  | sla => rw [shiftResult_sla, rotAResult_rla, ← ofNat_mod_256]; rfl
  | sra => rw [shiftResult_sra, rotAResult_rra, getLsbD_seven, toNat_decide_ge_128]; rfl
  | swap => exact congrArg (·, false) (swappedNibbles_eq v)
  | srl => rw [shiftResult_srl, rotAResult_rra]; rfl

/-- The zero flag tests the result before it is narrowed: it is a byte. -/
theorem shiftResult_isZero (op : ShiftOp) (v : Byte) (fc : Bool) : ((shiftResult op v fc).1 == 0) =
    decide (shiftedValue op v.toNat fc.toNat = 0) := by
  rw [shiftResult_eq, beq_eq_decide, decide_eq_decide, ofNat_eq_zero_iff,
    Nat.mod_eq_of_lt (shiftedValue_lt op v.isLt fc.toNat_lt)]

/-- The state a shift ends its step with: the operand and the flags in arithmetic. -/
def shiftEffect (op : ShiftOp) (o : Opnd8) (s : State) : State :=
  let v := (s.opnd o).toNat
  let r := shiftedValue op v s.fc.toNat
  (s.setOpnd o (BitVec.ofNat 8 r)).setFlags (decide (r = 0)) false false (shiftedCarry op v)

theorem exec_shift_ended (op : ShiftOp) (o : Opnd8) (s : State) :
    exec (Instr.shift op o) s = .next ((shiftEffect op o s).ended (s.pc + 2)) := by
  rw [exec_shift, shift8, shiftResult_isZero, shiftResult_eq]
  exact advance_ended 2 (State.setOpnd_imePending s o _)

/-- Settles O47: the model's result in arithmetic, for whichever operand `opnd` reads and `setOpnd` writes. -/
theorem shiftsAndRotates : Obligations.ShiftsAndRotates :=
  ⟨fun s op r => exec_shift_ended op (.reg r) s, fun s op => exec_shift_ended op .indHl s, encode_shift⟩

/-! ### Bits of the operand (R289 to R291) -/

theorem not_getLsbD_eq (v : Byte) (n : Nat) : (!v.getLsbD n) = decide (v.toNat / 2 ^ n % 2 = 0) := by
  rw [BitVec.getLsbD, Nat.testBit_eq_decide_div_mod_eq, ← decide_not, decide_eq_decide, Nat.mod_two_not_eq_one]

theorem exec_bit_ended (b : Idx8) (o : Opnd8) (s : State) : exec (Instr.bit b o) s =
    .next ((s.setFlags (decide ((s.opnd o).toNat / 2 ^ b.val % 2 = 0)) false true s.fc).ended (s.pc + 2)) := by
  rw [exec_bit, bit8, not_getLsbD_eq]
  exact advance_ended 2 rfl

/-- Settles O48: the operand is only read, so the flags are the whole effect. -/
theorem bitTests : Obligations.BitTests :=
  ⟨fun s b r => exec_bit_ended b (.reg r) s, fun s b => exec_bit_ended b .indHl s, encode_bit⟩

theorem bitMask_getLsbD {k : Nat} (hk : k < 8) (n : Nat) :
    ((1 : Byte) <<< n).getLsbD k = decide (k = n) := by
  refine (BitVec.getLsbD_twoPow n k).trans ?_
  rw [← Bool.decide_and, decide_eq_decide]
  omega

theorem resetBit_getLsbD (v : Byte) (n : Nat) {k : Nat} (hk : k < 8) :
    (v &&& ~~~((1 : Byte) <<< n)).getLsbD k = if k = n then false else v.getLsbD k := by
  rw [BitVec.getLsbD_and, BitVec.getLsbD_not, bitMask_getLsbD hk]
  by_cases h : k = n <;> simp [h, hk]

theorem setBit_getLsbD (v : Byte) (n : Nat) {k : Nat} (hk : k < 8) :
    (v ||| (1 : Byte) <<< n).getLsbD k = if k = n then true else v.getLsbD k := by
  rw [BitVec.getLsbD_or, bitMask_getLsbD hk]
  by_cases h : k = n <;> simp [h]

theorem exec_res_ended (b : Idx8) (o : Opnd8) (s : State) : exec (Instr.res b o) s =
    .next ((s.setOpnd o (s.opnd o &&& ~~~((1 : Byte) <<< b.val))).ended (s.pc + 2)) := by
  rw [exec_res]
  exact advance_ended 2 (State.setOpnd_imePending s o _)

theorem exec_set_ended (b : Idx8) (o : Opnd8) (s : State) : exec (Instr.set b o) s =
    .next ((s.setOpnd o (s.opnd o ||| (1 : Byte) <<< b.val)).ended (s.pc + 2)) := by
  rw [exec_set]
  exact advance_ended 2 (State.setOpnd_imePending s o _)

/-- Settles O49: the byte written back is the operand masked, whether the bit changes or not. -/
theorem bitResetsAndSets : Obligations.BitResetsAndSets :=
  ⟨fun s b r => ⟨_, fun _ => resetBit_getLsbD (s.reg r) b.val, exec_res_ended b (.reg r) s⟩,
    fun s b => ⟨_, fun _ => resetBit_getLsbD (s.read8 s.hl) b.val, exec_res_ended b .indHl s⟩,
    fun s b r => ⟨_, fun _ => setBit_getLsbD (s.reg r) b.val, exec_set_ended b (.reg r) s⟩,
    fun s b => ⟨_, fun _ => setBit_getLsbD (s.read8 s.hl) b.val, exec_set_ended b .indHl s⟩,
    encode_res, encode_set⟩

end Sys2Proof.Machine
end

section
/-! PROOFS. The families 60_exceptions and 70_reset_and_hazards: no instruction faults, what the driver loop
keeps and how it ends, the ROM load, and the delay of EI (spec/60_exceptions.md,
spec/70_reset_and_hazards.md). -/

namespace Sys2Proof.Machine

/-! ### No instruction faults (R300) -/

/-- Settles O8: the answer and its effect are the inversion of `exec`, and no effect reaches the parameters. -/
theorem everyInstructionCompletes : Obligations.EveryInstructionCompletes := by
  intro i s
  obtain ⟨t, ht, heffect⟩ := exec_effect i s
  exact ⟨t, ht, heffect.params⟩

/-! ### The driver loop (R318) -/

/-- Settles O13, by induction on the rounds of the loop: the state changes by steps alone. -/
theorem runKeepsInvariant : Obligations.RunKeepsInvariant := by
  intro answers s inv
  fun_induction drive answers s with
  | case4 s _ _ rest t hstep ih => exact ih (stepKeepsInvariant s t inv hstep)
  | case1 | case2 | case3 | case5 | case6 => exact inv

/-- What each end of the driver loop says of the state it leaves (R34, R315, R318). -/
def RunEnd.Leaves : RunEnd → State → Prop
  | .halted, t => t.running = false
  | .refused reason, t => t.running = true ∧ t.refused = some reason
  | .stopped, t => t.running = true ∧ t.refused = none
  | .running, t => t.running = true ∧ t.refused = none

/-- The loop tests `running` and the mark before every end but the arm for a missing step, which is not reached:
a step exists wherever the tests pass (R110). -/
theorem drive_leaves (answers : List Bool) (s : State) :
    (drive answers s).2.Leaves (drive answers s).1 := by
  fun_induction drive answers s with
  | case1 _ s hrunning reason hmark => exact ⟨hrunning, hmark⟩
  | case2 s hrunning hrefused => exact ⟨hrunning, hrefused⟩
  | case3 s hrunning hrefused _ => exact ⟨hrunning, hrefused⟩
  | case4 s _ _ rest t _ ih => exact ih
  | case5 s hrunning hrefused _ hnone =>
    obtain ⟨t, ht⟩ := (stepExistsIffRunningAndNotRefused s).2 ⟨hrunning, hrefused⟩
    exact absurd ht (hnone t)
  | case6 _ s hhalted => exact Bool.eq_false_of_not_eq_true hhalted

theorem leaves_of_drive_eq {answers : List Bool} {s t : State} {e : RunEnd} (h : drive answers s = (t, e)) :
    e.Leaves t := by
  simpa only [h] using drive_leaves answers s

/-- Settles O14: the four clauses are what the four ends say. -/
theorem driverEndsWhereItSays : Obligations.DriverEndsWhereItSays :=
  fun _ _ _ => ⟨leaves_of_drive_eq, fun _ => leaves_of_drive_eq, leaves_of_drive_eq, leaves_of_drive_eq⟩

/-! ### The ROM load (R335) -/

/-- A load stores nothing below the address it starts at. -/
theorem Memory.read_load_below (m : Memory) {at0 a : Nat} (image : List Byte) (h : a < at0) :
    Memory.read (Memory.load m at0 image) a = Memory.read m a := by
  induction image generalizing m at0 with
  | nil => rfl
  | cons v rest ih => rw [Memory.load, ih _ (by omega), Memory.read_write_other v (by omega)]

/-- From where a load starts, a byte is the image's, and past the image what it was. -/
theorem Memory.read_load {m : Memory} {at0 : Nat} {image : List Byte} (hm : Memory.wf m = true)
    (hfits : at0 + image.length ≤ busSize) (k : Nat) :
    Memory.read (Memory.load m at0 image) (at0 + k) = image.getD k (Memory.read m (at0 + k)) := by
  induction image generalizing m at0 k with
  | nil => rfl
  | cons v rest ih =>
    rw [List.length_cons] at hfits
    rw [Memory.load]
    cases k with
    | zero =>
      rw [Nat.add_zero at0, Memory.read_load_below _ rest at0.lt_add_one, Memory.read_write_same v hm,
        List.getD_cons_zero]
    | succ k =>
      have hwf : Memory.wf (Memory.write m at0 v) = true := Memory.write_wf v hm (by omega)
      rw [List.getD_cons_succ, show at0 + (k + 1) = at0 + 1 + k by omega, ih hwf (by omega),
        Memory.read_write_other v (by omega)]

theorem loadRom_of_fits {image : List Byte} (h : image.length ≤ busSize) :
    loadRom (some image) = .ok (Memory.load [] 0 image) := if_neg (by omega)

theorem loadRom_of_too_large {image : List Byte} (h : busSize < image.length) :
    loadRom (some image) = .error .romLoadFailure := if_pos h

theorem boot_of_loadRom_ok {source : Option (List Byte)} {m : Memory} (h : loadRom source = .ok m)
    (p : Params) (r : ResetRegs) : boot p r source = .ok { State.ofReset p r with mem := m } := by
  rw [boot, h]

theorem boot_of_loadRom_error {source : Option (List Byte)} {e : LoadError} (h : loadRom source = .error e)
    (p : Params) (r : ResetRegs) : boot p r source = .error e := by
  rw [boot, h]

/-- Settles O10: the load starts at address 0 of the memory that is all 0, and a failed load leaves no core. -/
theorem bootLoadsRomAtZero : Obligations.BootLoadsRomAtZero := by
  refine ⟨fun p r image hfits => ⟨Memory.load [] 0 image, ?_, fun a _ => ?_⟩, fun p r image hlarge => ?_,
    fun p r => ?_⟩
  · exact boot_of_loadRom_ok (loadRom_of_fits hfits) p r
  · have hread : Memory.read (Memory.load [] 0 image) (0 + a) = image.getD a 0 :=
      Memory.read_load rfl (by simpa [busSize] using hfits) a
    rwa [Nat.zero_add] at hread
  · exact boot_of_loadRom_error (loadRom_of_too_large hlarge) p r
  · exact boot_of_loadRom_error rfl p r

/-! ### The delay of EI (R102, R107) -/

/-- Any instruction but DI that is not refused takes up an enable pending before it, EI and RETI among them. -/
theorem ime_of_pending {i : Instr} {s t : State} (h : exec i s = .next t) (hpending : s.imePending = true)
    (hdi : i ≠ .di) (hrefused : t.refused = none) : t.ime = true ∧ t.imePending = false := by
  obtain ord | ⟨-, ⟨_, -, -, hmark⟩ | ⟨_, -, -, hmark⟩⟩ := effect_of_exec h
  · obtain ⟨rfl, -⟩ | ⟨-, hime, hleft⟩ | ⟨-, hime, hleft⟩ | ⟨hime, hleft⟩ := ord.ime
    · exact absurd rfl hdi
    · exact ⟨by simp [hime, hpending], by simp [hleft, hpending]⟩
    · exact ⟨hime, hleft⟩
    · exact ⟨by simp [hime, hpending], hleft⟩
  · simp [hmark] at hrefused
  · simp [hmark] at hrefused

/-- Settles O53: EI leaves IME alone and an enable pending, which the next instruction takes up. -/
theorem eiTakesEffectAfterNextInstruction : Obligations.EiTakesEffectAfterNextInstruction := by
  intro i s t u hei hnone hnext hdi _ hrefused
  obtain ⟨-, hei_of_none, -⟩ := diAndEi
  rw [hei_of_none s hnone] at hei
  cases hei
  exact ⟨rfl, ime_of_pending hnext rfl hdi hrefused⟩

end Sys2Proof.Machine
end
